-- ==== Sys2Proof/Word.lean ====
section
/-! DEFINITION. The widths the CORE block works in (spec/00_scope.md R7, R10, R13): every value is an unsigned bit
vector of the stated width. No arithmetic is defined here; see Machine/Operands.lean. -/

namespace Sys2Proof

/-- One byte of a frame buffer (R11). -/
abbrev Byte := BitVec 8

/-- The 32-bit command word and response word (R48, R49). -/
abbrev Word := BitVec 32

/-- A control-register value (R30). -/
abbrev Half := BitVec 16

/-- A robot id, 0 being "nobody" (R6 `ID_NONE`, R13). -/
abbrev RobotId := BitVec 8

/-- A time in milliseconds, as sampled from `now_i` (R7 `TIME_W`, R203). -/
abbrev Time := BitVec 32

end Sys2Proof
end

