-- ==== Sys2Proof/Config.lean ====
section
/-! DEFINITION. What is fixed for the life of one instance: the constants of spec/00_scope.md R6 and R7, and the
configuration record of the parameters that R7 leaves OPEN. Three constants are written as numerals, in the types they
bound: `SLOT_COUNT` = 6 (`Fin 6`, `Vector _ 6`), `N_CLIENT_RECORDS` = 255, and the 120 entries of a byte buffer (R46). -/

namespace Sys2Proof

/-- The strap `ROLE` (R5, R7, R32): which of the two roles this instance plays. -/
inductive Role where
  /-- robot side, strap value 0 -/
  | client
  /-- base-station side, strap value 1 -/
  | server
deriving DecidableEq, Repr, Inhabited

/-- The strap's value on the wire (R7: CLIENT = 0, SERVER = 1). -/
def Role.bit : Role → BitVec 1
  | .client => 0
  | .server => 1

/-- The parameters that R7 marks OPEN. They are inputs of the machine: no operation and no reset changes them. -/
structure Config where
  /-- `ROLE` (D16) -/
  role : Role
  /-- `PORT_CONTROL`, the number of the port `CONTROL` (D11) -/
  portControl : BitVec 4
  /-- `TYPE_CONTROL`, the number of the type `Control` (D11) -/
  typeControl : BitVec 4
  /-- `SLOT_DURATION_RESET`, the reset value of the register `SLOT_DURATION` (D22) -/
  slotDurationReset : Half
deriving DecidableEq, Repr, Inhabited

/-- The parameters of the instance that `State.reset` is the reset state of. It has no value: R7 leaves every
field OPEN, so nothing can be proved of any of them. DESIGN CHOICE, safe (log entry 1). -/
opaque Config.strap : Config

/-- The reference configuration `CFG_REF` of R7 and spec/92_eei_decisions.md. It binds nothing but the spec's test
vectors, and the model's own tests use it for them. -/
def Config.ref (role : Role) : Config :=
  { role := role, portControl := 0, typeControl := 0, slotDurationReset := 2 }

/-- `MAX_FRAME_BYTES` (R6, R110): the most bytes in one wire frame, length byte included. -/
def maxFrameBytes : Nat := 120

/-- `CLIENT_TIMEOUT_MS` default (R6, R38): the reset value of `CLIENT_TIMEOUT`. -/
def clientTimeoutMs : Half := 200

/-- `BASE_ADDR` (R6): the header address of the base station. -/
def baseAddr : Byte := 1

/-- `LOOPBACK_ADDR` (R6): named by the spec, used by no operation. -/
def loopbackAddr : Byte := 127

/-- `ID_NONE` (R6): the recipient id of an open slot. -/
def idNone : RobotId := 0

/-- `CF_BYTES` (R7, R83): the packed control frame. -/
def cfBytes : Nat := 57

/-- `CM_BITS` (R7, R84): the packed control message. -/
def cmBits : Nat := 75

/-- `RP_BYTES` (R7, R86): the packed reply message. -/
def rpBytes : Nat := 2

end Sys2Proof
end

