-- ==== Sys2Proof/Syntax.lean ====
section
/-! DEFINITION. The 19 operations of spec/opcode_table.json (spec/30_encoding.md R90), each with the operands its
command word carries (R88). The operands that travel beside the word (`buf`, `len`, `cf`, `now`, `rnd`) are sampled
into `State.side` when the command is accepted (R48). -/

namespace Sys2Proof

/-- One operation with the operands of its command word (R88). A field of the word that an operation does not name
is ignored (R87) and has no place here. -/
inductive Instr where
  /-- `NOP` (R143) -/
  | nop
  /-- `ENC` (R111): `address = a`, `port = imm[7:4]`, `type = imm[3:0]` -/
  | enc (address : Byte) (port : BitVec 4) (typ : BitVec 4)
  /-- `DEC` (R112) -/
  | dec
  /-- `ENCCF` (R120) -/
  | enccf
  /-- `DECCF` (R121) -/
  | deccf
  /-- `ENCRP` (R130): `sender_id = a`, `hardware_revision = imm[3:0]` -/
  | encrp (senderId : RobotId) (hardwareRevision : BitVec 4)
  /-- `DECRP` (R131) -/
  | decrp
  /-- `START` (R144) -/
  | start
  /-- `STOP` (R145) -/
  | stop
  /-- `CSRR` (R146): register address `a` -/
  | csrr (csr : BitVec 8)
  /-- `CSRW` (R147): register address `a`, data `imm` -/
  | csrw (csr : BitVec 8) (data : Half)
  /-- `RXC` (R156) -/
  | rxc
  /-- `CTICK` (R157) -/
  | ctick
  /-- `RXR` (R166): `rx_slot = s` -/
  | rxr (rxSlot : BitVec 3)
  /-- `SWEEP` (R168) -/
  | sweep
  /-- `SETCMD` (R170) -/
  | setcmd
  /-- `BUILD` (R171) -/
  | build
  /-- `RDCLI` (R175): robot id `a` -/
  | rdcli (id : RobotId)
  /-- `RDSLOT` (R176): slot index `s` -/
  | rdslot (slot : BitVec 3)
deriving DecidableEq, Repr

/-- Why a command word selects no operation (R91). The core completes such a command with `ILLEGAL_OP`. -/
inductive DecodeError where
  /-- the `op` code is one of 0x07, 0x0C to 0x0F, 0x12 to 0x17, 0x1E, 0x1F -/
  | reservedOp (op : BitVec 5)
deriving DecidableEq, Repr

/-- The mnemonic of the opcode table (R90), the first word of the textual syntax (R95). -/
def Instr.mnemonic : Instr → String
  | .nop => "NOP"
  | .enc _ _ _ => "ENC"
  | .dec => "DEC"
  | .enccf => "ENCCF"
  | .deccf => "DECCF"
  | .encrp _ _ => "ENCRP"
  | .decrp => "DECRP"
  | .start => "START"
  | .stop => "STOP"
  | .csrr _ => "CSRR"
  | .csrw _ _ => "CSRW"
  | .rxc => "RXC"
  | .ctick => "CTICK"
  | .rxr _ => "RXR"
  | .sweep => "SWEEP"
  | .setcmd => "SETCMD"
  | .build => "BUILD"
  | .rdcli _ => "RDCLI"
  | .rdslot _ => "RDSLOT"

/-- The pseudo-operation `SETID id` (R96): `CSRW csr=OWN_ID, data=id`. -/
def Instr.setId (id : RobotId) : Instr := .csrw 0x04 (id.setWidth 16)

/-- The pseudo-operation `EVCLR mask` (R96): `CSRW csr=EVENTS, data=mask`. -/
def Instr.evClr (mask : Half) : Instr := .csrw 0x02 mask

/-- The pseudo-operation `RDEV` (R96): `CSRR csr=EVENTS`. -/
def Instr.rdEv : Instr := .csrr 0x02

end Sys2Proof
end

