-- ==== Sys2Proof/WellFormed.lean ====
section
/-! DEFINITION. Which operations have every command-word operand inside the range spec/30_encoding.md R92 gives it.
An operation outside it still decodes and still runs: it completes with `BAD_OPERAND` (spec/43_protocol_entity.md R140). -/

namespace Sys2Proof

/-- The command-word operands of `i` are in range (R92, and R147 for the read-only registers 0x00 and 0x01). `RXR`
accepts every `rx_slot`: 6 and 7 mean that the slot is unknown (R167). -/
def Instr.wellFormed : Instr → Bool
  | .csrr csr => csr.toNat ≤ 0x09
  | .csrw csr _ => 0x02 ≤ csr.toNat && csr.toNat ≤ 0x09
  | .rdcli id => id != 0
  | .rdslot slot => slot.toNat < 6
  | .nop | .enc _ _ _ | .dec | .enccf | .deccf | .encrp _ _ | .decrp | .start | .stop => true
  | .rxc | .ctick | .rxr _ | .sweep | .setcmd | .build => true

end Sys2Proof
end

