-- ==== Sys2Proof/Decode.lean ====
section
/-! DEFINITION. The command word (spec/30_encoding.md R87 to R92): its fields, the decoder from a word to an
operation, the encoder, and the bits of a word that an operation names. -/

namespace Sys2Proof

/-- `op`, bits 31:27 (R87). -/
def opField (cw : Word) : BitVec 5 := cw.extractLsb' 27 5

/-- `s`, bits 26:24 (R87). -/
def sField (cw : Word) : BitVec 3 := cw.extractLsb' 24 3

/-- `a`, bits 23:16 (R87). -/
def aField (cw : Word) : BitVec 8 := cw.extractLsb' 16 8

/-- `imm`, bits 15:0 (R87). -/
def immField (cw : Word) : Half := cw.extractLsb' 0 16

/-- The command word of the four fields (R87). -/
def commandWord (op : BitVec 5) (s : BitVec 3) (a : BitVec 8) (imm : Half) : Word := op ++ s ++ a ++ imm

/-- The operation a command word selects (R88, R90), or the reserved `op` code it holds (R91). Bits that the selected
operation does not name are ignored (R87). -/
def decode (cw : Word) : Except DecodeError Instr :=
  match (opField cw).toNat with
  | 0x00 => .ok .nop
  | 0x01 => .ok (.enc (aField cw) ((immField cw).extractLsb' 4 4) ((immField cw).extractLsb' 0 4))
  | 0x02 => .ok .dec
  | 0x03 => .ok .enccf
  | 0x04 => .ok .deccf
  | 0x05 => .ok (.encrp (aField cw) ((immField cw).extractLsb' 0 4))
  | 0x06 => .ok .decrp
  | 0x08 => .ok .start
  | 0x09 => .ok .stop
  | 0x0A => .ok (.csrr (aField cw))
  | 0x0B => .ok (.csrw (aField cw) (immField cw))
  | 0x10 => .ok .rxc
  | 0x11 => .ok .ctick
  | 0x18 => .ok (.rxr (sField cw))
  | 0x19 => .ok .sweep
  | 0x1A => .ok .setcmd
  | 0x1B => .ok .build
  | 0x1C => .ok (.rdcli (aField cw))
  | 0x1D => .ok (.rdslot (sField cw))
  | _ => .error (.reservedOp (opField cw))

/-- The command word of an operation, every bit it does not name 0 (R88, R90). -/
def encode : Instr → Word
  | .nop => commandWord 0x00 0 0 0
  | .enc address port typ => commandWord 0x01 0 address (0#8 ++ port ++ typ)
  | .dec => commandWord 0x02 0 0 0
  | .enccf => commandWord 0x03 0 0 0
  | .deccf => commandWord 0x04 0 0 0
  | .encrp senderId hardwareRevision => commandWord 0x05 0 senderId (0#12 ++ hardwareRevision)
  | .decrp => commandWord 0x06 0 0 0
  | .start => commandWord 0x08 0 0 0
  | .stop => commandWord 0x09 0 0 0
  | .csrr csr => commandWord 0x0A 0 csr 0
  | .csrw csr data => commandWord 0x0B 0 csr data
  | .rxc => commandWord 0x10 0 0 0
  | .ctick => commandWord 0x11 0 0 0
  | .rxr rxSlot => commandWord 0x18 rxSlot 0 0
  | .sweep => commandWord 0x19 0 0 0
  | .setcmd => commandWord 0x1A 0 0 0
  | .build => commandWord 0x1B 0 0 0
  | .rdcli id => commandWord 0x1C 0 id 0
  | .rdslot slot => commandWord 0x1D slot 0 0

/-- The bits of the command word that an operation names: `op` always, and the operands of R88. Every other bit is
ignored (R87). -/
def namedBits : Instr → Word
  | .enc _ _ _ => commandWord (BitVec.allOnes _) 0 (BitVec.allOnes _) 0x00FF
  | .encrp _ _ => commandWord (BitVec.allOnes _) 0 (BitVec.allOnes _) 0x000F
  | .csrr _ => commandWord (BitVec.allOnes _) 0 (BitVec.allOnes _) 0
  | .csrw _ _ => commandWord (BitVec.allOnes _) 0 (BitVec.allOnes _) (BitVec.allOnes _)
  | .rxr _ => commandWord (BitVec.allOnes _) (BitVec.allOnes _) 0 0
  | .rdcli _ => commandWord (BitVec.allOnes _) 0 (BitVec.allOnes _) 0
  | .rdslot _ => commandWord (BitVec.allOnes _) (BitVec.allOnes _) 0 0
  | .nop | .dec | .enccf | .deccf | .decrp | .start | .stop => commandWord (BitVec.allOnes _) 0 0 0
  | .rxc | .ctick | .sweep | .setcmd | .build => commandWord (BitVec.allOnes _) 0 0 0

/-- The operation the decoder reads from a word numbered as spec/opcode_table.json numbers it. A command word is 32
wires (R48), so there is no byte order to lay out; every bit at or above `nbits` is 0. -/
def decodeTableWord (nbits w : Nat) : Option Instr :=
  match decode (BitVec.ofNat 32 (w % 2 ^ nbits)) with
  | .ok i => some i
  | .error _ => none

end Sys2Proof
end

