-- ==== Sys2Proof/Machine/Records.lean ====
section
/-! DEFINITION. The data the CORE block moves and keeps: the records of spec/00_scope.md R13, the entries of the
server's register files (spec/10_state.md R42 to R44), the completion statuses (spec/60_exceptions.md R190), and what
the command and response channels carry (spec/10_state.md R47 to R49). -/

namespace Sys2Proof.Machine

open Sys2Proof

/-! ### Frames and messages (R13) -/

/-- `Header` (R13): `address`, then `port`, then `type`. -/
structure Header where
  address : Byte
  port : BitVec 4
  typ : BitVec 4
deriving DecidableEq, Repr

/-- `ControlMessage` (R13): 75 bits. The velocities are 16-bit patterns, which the core never computes with (R127; log
entry 8). -/
structure ControlMessage where
  recipientId : RobotId
  velocityX : BitVec 16
  velocityY : BitVec 16
  velocityW : BitVec 16
  kickPower : BitVec 16
  chipOrKick : BitVec 1
  kickTriggerMode : BitVec 2
deriving DecidableEq, Repr, Inhabited

/-- `ZERO_MSG` (R13): the control message with every field zero. -/
def ControlMessage.zero : ControlMessage :=
  { recipientId := 0, velocityX := 0, velocityY := 0, velocityW := 0, kickPower := 0, chipOrKick := 0,
    kickTriggerMode := 0 }

/-- `ControlFrame` (R13): "ordered sequence of exactly 6 ControlMessage", indexed 0 to 5. -/
structure ControlFrame where
  frameType : BitVec 4
  slots : Vector ControlMessage 6
deriving DecidableEq, Repr

/-- The control frame with every field zero. -/
def ControlFrame.zero : ControlFrame := { frameType := 0, slots := Vector.replicate 6 ControlMessage.zero }

/-- `ReplyMessage` (R13). -/
structure ReplyMessage where
  senderId : RobotId
  hardwareRevision : BitVec 4
deriving DecidableEq, Repr

/-! ### Register files of the server (R42 to R44) -/

/-- The 67 bits of a pending command, `slot[s].cmd` (R43): a control message less its `recipient_id`. -/
structure MotionCommand where
  velocityX : BitVec 16
  velocityY : BitVec 16
  velocityW : BitVec 16
  kickPower : BitVec 16
  chipOrKick : BitVec 1
  kickTriggerMode : BitVec 2
deriving DecidableEq, Repr, Inhabited

/-- The hold/zero command (R174), and the reset value of `slot[s].cmd` (R43). -/
def MotionCommand.zero : MotionCommand :=
  { velocityX := 0, velocityY := 0, velocityW := 0, kickPower := 0, chipOrKick := 0, kickTriggerMode := 0 }

/-- An entry `cli[id]` of the per-robot status register file (R42). -/
structure CliRecord where
  valid : Bool
  lastPacketTime : Time
  hardwareRevision : BitVec 4
  reclaimable : Bool
deriving DecidableEq, Repr, Inhabited

/-- The reset value of a record (R42). -/
def CliRecord.empty : CliRecord :=
  { valid := false, lastPacketTime := 0, hardwareRevision := 0, reclaimable := false }

/-- An entry `slot[s]` of the slot table (R43). `owner = 0` is an open slot. -/
structure SlotEntry where
  owner : RobotId
  cmdValid : Bool
  cmd : MotionCommand
deriving DecidableEq, Repr, Inhabited

/-- The reset value of a slot-table entry (R43). -/
def SlotEntry.vacant : SlotEntry := { owner := 0, cmdValid := false, cmd := MotionCommand.zero }

/-- The `state` of a claim-table entry (R44). The code 3 never occurs. -/
inductive ClaimState where
  | none
  | one
  | collided
deriving DecidableEq, Repr, Inhabited

/-- The 2-bit code of a claim state (R44). -/
def ClaimState.code : ClaimState → BitVec 2
  | .none => 0
  | .one => 1
  | .collided => 2

/-- An entry `claim[s]` of the claim table (R44). -/
structure Claim where
  state : ClaimState
  id : RobotId
deriving DecidableEq, Repr, Inhabited

/-- `{NONE, 0}`: the reset value, and the value after `BUILD` and `STOP` (R44, R145, R173). -/
def Claim.cleared : Claim := { state := .none, id := 0 }

/-! ### The channels (R47 to R49) -/

/-- The completion statuses other than `OK` (R190). Codes 4 and 5 are never output and have no constructor. -/
inductive Status where
  /-- 1: raised by `ENC` -/
  | frameTooLarge
  /-- 2: raised by `DEC`, `DECCF`, `DECRP`, `RXC`, `RXR` -/
  | frameTooShort
  /-- 3: raised by `DECCF`, `RXC` -/
  | duplicateRecipient
  /-- 8: raised by `RXC`, `RXR` -/
  | ignored
  /-- 9: raised by `RXR` -/
  | badSender
  /-- 10: raised by the operations that need `started` -/
  | notStarted
  /-- 11: raised by an operation of the other role -/
  | wrongRole
  /-- 12: raised by a command word whose `op` selects nothing -/
  | illegalOp
  /-- 13: raised by an operand out of range -/
  | badOperand
  /-- 14: raised by `SETCMD` -/
  | notAssigned
deriving DecidableEq, Repr

/-- `rsp_status_o` for a status other than `OK` (R190). -/
def Status.code : Status → BitVec 5
  | .frameTooLarge => 1
  | .frameTooShort => 2
  | .duplicateRecipient => 3
  | .ignored => 8
  | .badSender => 9
  | .notStarted => 10
  | .wrongRole => 11
  | .illegalOp => 12
  | .badOperand => 13
  | .notAssigned => 14

/-- The result fields of an operation that ended `OK` (R49, R89). A field the operation's rule does not name has no
meaning and is `none` here (DEDUCED, safe, log entry 5). -/
structure Result where
  /-- `rsp_word_o`; bits that R89 does not list are 0 -/
  word : Word
  /-- `rsp_buf_o[0..rsp_len_o-1]` -/
  bytes : Option (List Byte)
  /-- `rsp_cf_o` -/
  cf : Option ControlFrame
  /-- `rsp_time_o` -/
  time : Option Time
deriving DecidableEq, Repr

/-- One response (R49): the results of an operation that ended `OK`, or the status it raised and nothing else (R192). -/
inductive Response where
  | ok (r : Result)
  | raised (status : Status)
deriving DecidableEq, Repr

/-- The operands that travel beside the command word (R48), sampled when the command is accepted. -/
structure SideOperands where
  /-- `cmd_len_i` -/
  len : BitVec 7
  /-- `cmd_buf_i` -/
  buf : Vector Byte 120
  /-- `cmd_cf_i` -/
  cf : ControlFrame
  /-- `now_i` -/
  now : Time
  /-- `rnd_i`, a draw: no rule constrains it (R155) -/
  rnd : BitVec 8
deriving DecidableEq, Repr

/-- Every side operand zero. -/
def SideOperands.zero : SideOperands :=
  { len := 0, buf := Vector.replicate 120 0, cf := ControlFrame.zero, now := 0, rnd := 0 }

/-- What the host drives at one rising edge of `clk` (R47 to R49). -/
structure Edge where
  /-- `rst` -/
  rst : Bool
  /-- `rsp_ready_i` -/
  rspReady : Bool
  /-- `cmd_valid_i` -/
  cmdValid : Bool
  /-- `cmd_word_i` -/
  cmdWord : Word
  /-- the operands beside the word -/
  side : SideOperands
deriving DecidableEq, Repr

/-- An edge that offers the command `cw` with side operands `side`. -/
def Edge.command (cw : Word) (side : SideOperands) : Edge :=
  { rst := false, rspReady := false, cmdValid := true, cmdWord := cw, side := side }

/-- An edge at which the host takes the response. -/
def Edge.take : Edge :=
  { rst := false, rspReady := true, cmdValid := false, cmdWord := 0, side := SideOperands.zero }

/-- An edge with `rst = 1`. -/
def Edge.reset : Edge :=
  { rst := true, rspReady := false, cmdValid := false, cmdWord := 0, side := SideOperands.zero }

end Sys2Proof.Machine
end

