-- ==== Sys2Proof/Machine/State.lean ====
section
/-! DEFINITION. The state of one CORE block (spec/10_state.md R22 to R44), the channels it is driven through, the
reasons a step can stop, and the state after reset (R52, spec/70_reset_and_hazards.md R215, R216). -/

namespace Sys2Proof.Machine

open Sys2Proof

/-- The state of one instance. The first nineteen fields are the spec's (R52); `cfg` is the configuration record of
R7, fixed for the life of the instance; the last three are the channels. Plain data. -/
structure State where
  /-- the straps and OPEN parameters (R7); written by nothing, not even by reset -/
  cfg : Config
  /-- R22: the lifecycle bit -/
  started : Bool
  /-- R23: 0 `Disconnected`, 1 `Connected` -/
  conn : Bool
  /-- R24: the client's current command -/
  curCmd : ControlMessage
  /-- R24 -/
  curCmdValid : Bool
  /-- R25: a reply is scheduled -/
  replyPending : Bool
  /-- R25: 0 to 5 -/
  replySlot : BitVec 3
  /-- R25 -/
  replyArmedTime : Time
  /-- R26 -/
  lastFrameTime : Time
  /-- R34: `EVENTS`, seven sticky bits -/
  events : BitVec 7
  /-- R35: `IRQ_EN` -/
  irqEn : BitVec 7
  /-- R36: `OWN_ID` -/
  ownId : RobotId
  /-- R37: `HW_REV` -/
  hwRev : BitVec 4
  /-- R38: `CLIENT_TIMEOUT` -/
  clientTimeout : Half
  /-- R39: `SLOT_DURATION` -/
  slotDuration : Half
  /-- R40: `SILENCE_WINDOW` -/
  silenceWindow : Half
  /-- R41: `CTRL.CLAIM_EN` -/
  claimEn : Bool
  /-- R42: `cli[1..255]`, the record of id `n` at index `n - 1`; id 0 has no entry -/
  cli : Vector CliRecord 255
  /-- R43: `slot[0..5]` -/
  slot : Vector SlotEntry 6
  /-- R44: `claim[0..5]` -/
  claim : Vector Claim 6
  /-- R48: the side operands sampled at the last acceptance; read only by the operation in flight (DESIGN CHOICE, log
  entry 10) -/
  side : SideOperands
  /-- R49: the response that the host has not taken yet (`rsp_valid_o = 1`), if any -/
  rsp : Option Response
  /-- the model's own field: what the host will drive at the coming edges, the next one first (DESIGN CHOICE, safe, log
  entry 2) -/
  inputs : List Edge
deriving DecidableEq, Repr

/-- Reasons the machine stops with a fault. There is none, and so no constructor: "No error in this subsystem is
fatal to the process", and no status stops the core from accepting commands (R195). DEDUCED, safe: nothing is left out
(log entry 9). -/
inductive Fault where
deriving DecidableEq, Repr

/-- Reasons a step is refused. No operation of the table is refused in this model. -/
inductive Refusal where
  /-- Raised by an arm of `exec` that has no meaning yet; no arm raises it. Safe: the model stops where the hardware
  goes on. -/
  | notModelled (mnemonic : String)
deriving DecidableEq, Repr

/-- The state after reset under the configuration `cfg`, "a function of the configuration alone" (R52, R215). No
command is offered. -/
def State.resetWith (cfg : Config) : State :=
  { cfg := cfg
    started := false
    conn := false
    curCmd := ControlMessage.zero
    curCmdValid := false
    replyPending := false
    replySlot := 0
    replyArmedTime := 0
    lastFrameTime := 0
    events := 0
    irqEn := 0
    ownId := 0
    hwRev := 0
    clientTimeout := clientTimeoutMs
    slotDuration := cfg.slotDurationReset
    silenceWindow := 0
    claimEn := true
    cli := Vector.replicate 255 CliRecord.empty
    slot := Vector.replicate 6 SlotEntry.vacant
    claim := Vector.replicate 6 Claim.cleared
    side := SideOperands.zero
    rsp := none
    inputs := [] }

/-- The machine right after reset (R52), under the configuration that no proof can see into. -/
def State.reset : State := State.resetWith Config.strap

end Sys2Proof.Machine
end

