-- ==== Sys2Proof/Machine/Operands.lean ====
section
/-! DEFINITION. Operand forms and arithmetic: the bit stream of a byte buffer (spec/00_scope.md R11), the byte-buffer
operand (spec/10_state.md R48, spec/20_memory.md R66), time differences (spec/60_exceptions.md R204), the fields of a
response word (spec/30_encoding.md R89), and tables indexed by slot. -/

namespace Sys2Proof.Machine

open Sys2Proof

/-! ### The bit stream of a byte buffer (R11) -/

/-- The `w`-bit value whose bit number `i`, counted from the most significant, is `f i`. -/
def ofBits (f : Nat → Bool) : (w : Nat) → BitVec w
  | 0 => 0#0
  | w + 1 => (ofBits f w).concat (f w)

/-- The bit at stream position `p` of `B`: bit `7 - (p mod 8)` of byte `B[p div 8]` (R11). It is asked only for
positions inside `B`. -/
def streamBit (B : List Byte) (p : Nat) : Bool := (B.getD (p / 8) 0).getMsbD (p % 8)

/-- `get(B, p, w)` (R11): the most significant bit at position `p`, the least significant at `p + w - 1`. -/
def getBits (B : List Byte) (p w : Nat) : BitVec w := ofBits (fun i => streamBit B (p + i)) w

/-- What `put(B, p, w, v)` makes of byte number `i`, whose bits are the positions `8 i` to `8 i + 7`. -/
def putByte (p : Nat) (v : BitVec w) (i : Nat) (b : Byte) : Byte :=
  if 8 * i + 8 ≤ p ∨ p + w ≤ 8 * i then b
  else ofBits (fun j => if p ≤ 8 * i + j ∧ 8 * i + j < p + w then v.getMsbD (8 * i + j - p) else b.getMsbD j) 8

/-- `putByte` on every byte, the first of them being byte number `i` of the buffer. -/
def putFrom (p : Nat) (v : BitVec w) : Nat → List Byte → List Byte
  | _, [] => []
  | i, b :: B => putByte p v i b :: putFrom p v (i + 1) B

/-- `put(B, p, w, v)` (R11): writes the `w` bits of `v` at position `p` and changes no other bit. -/
def putBits (B : List Byte) (p : Nat) (v : BitVec w) : List Byte := putFrom p v 0 B

/-! ### Slot-indexed tables -/

/-- The slot indices in ascending order (R152, R173). -/
def slotIndices : List (Fin 6) := [0, 1, 2, 3, 4, 5]

/-- The table whose entry `s` is `f s`. -/
def slotTable (f : Fin 6 → α) : Vector α 6 := #v[f 0, f 1, f 2, f 3, f 4, f 5]

/-- The mask in which bit `s` stands for slot `s` (R89). -/
def slotMask (f : Fin 6 → Bool) : BitVec 6 :=
  BitVec.ofBool (f 5) ++ BitVec.ofBool (f 4) ++ BitVec.ofBool (f 3) ++ BitVec.ofBool (f 2) ++ BitVec.ofBool (f 1)
    ++ BitVec.ofBool (f 0)

/-- A slot index as a 3-bit value. -/
def slotBits (s : Fin 6) : BitVec 3 := BitVec.ofNat 3 s.val

/-- The slot a 3-bit operand names: none for 6 and 7 (R92, R167). -/
def slotOf (s : BitVec 3) : Option (Fin 6) := if h : s.toNat < 6 then some ⟨s.toNat, h⟩ else none

/-! ### The byte-buffer operand -/

/-- `buf[0..len-1]` (R48, R66): no byte at or past `len` is read. -/
def SideOperands.bytes (o : SideOperands) : List Byte := o.buf.toList.take o.len.toNat

/-- `len > 120`: the operand buffer has 120 entries (R88, R112). -/
def SideOperands.tooLong (o : SideOperands) : Bool := 120 < o.len.toNat

/-! ### Arithmetic -/

/-- `elapsed(a, b) = (a - b) mod 2^32` (R12, R204). -/
def elapsed (a b : Time) : Time := a - b

/-! ### Response words (R89) -/

/-- The value `v` placed with its least significant bit at bit `lo` of a response word. -/
def rwField (lo : Nat) (v : BitVec w) : Word := v.setWidth 32 <<< lo

/-- A flag at bit `lo` of a response word. -/
def rwFlag (lo : Nat) (b : Bool) : Word := rwField lo (BitVec.ofBool b)

/-- The results of an operation that names only the response word. -/
def Result.ofWord (w : Word) : Result := { word := w, bytes := none, cf := none, time := none }

/-- The results of an operation that names the response word and the byte buffer. -/
def Result.ofBytes (w : Word) (B : List Byte) : Result := { word := w, bytes := some B, cf := none, time := none }

/-- `rsp_len_o` (R49). -/
def Result.len (r : Result) : Option (BitVec 7) := r.bytes.map fun B => BitVec.ofNat 7 B.length

/-- `rsp_status_o` (R190): 0 for `OK`. -/
def Response.statusCode : Response → BitVec 5
  | .ok _ => 0
  | .raised e => e.code

end Sys2Proof.Machine
end

