-- ==== Sys2Proof/Machine/Flags.lean ====
section
/-! DEFINITION. The flags: the seven sticky bits of `EVENTS` (spec/10_state.md R34), the `STATUS` register (R33), and
the side-band outputs (R50, spec/60_exceptions.md R199, R200). -/

namespace Sys2Proof.Machine

open Sys2Proof

/-- The event bits (R34). -/
inductive Event where
  | connUp
  | connDown
  | clientNew
  | clientTimeout
  | slotCollision
  | slotAssigned
  | slotFreed
deriving DecidableEq, Repr

/-- The bit of `EVENTS` an event has (R34), as a mask. -/
def Event.mask : Event → BitVec 7
  | .connUp => 0x01
  | .connDown => 0x02
  | .clientNew => 0x04
  | .clientTimeout => 0x08
  | .slotCollision => 0x10
  | .slotAssigned => 0x20
  | .slotFreed => 0x40

/-- Sets the event's bit if `b`; hardware only ever sets bits (R34). -/
def State.noteEvent (s : State) (e : Event) (b : Bool) : State :=
  { s with events := if b then s.events ||| e.mask else s.events }

/-- `EVENTS <- EVENTS and not v[6:0]` (R34, R147). -/
def State.clearEvents (s : State) (v : BitVec 7) : State := { s with events := s.events &&& ~~~v }

/-- The value of `STATUS` (R33): bit 0 `started`, 1 `conn`, 2 `cur_cmd_valid`, 3 `reply_pending`, 6:4 `reply_slot`. -/
def State.status (s : State) : Half :=
  0#9 ++ s.replySlot ++ BitVec.ofBool s.replyPending ++ BitVec.ofBool s.curCmdValid ++ BitVec.ofBool s.conn
    ++ BitVec.ofBool s.started

/-- The delay of the pending reply, `reply_slot * SLOT_DURATION` in 32 bits (R157, R204). -/
def State.replyDelay (s : State) : Time := s.replySlot.setWidth 32 * s.slotDuration.setWidth 32

/-- `reply_due_o` at the time `now` (R50): the pending reply's delay has passed. -/
def State.replyDue (s : State) (now : Time) : Bool :=
  s.replyPending && (s.replyDelay ≤ elapsed now s.replyArmedTime)

/-- The silence check at the time `now` (R159): on, connected, and more than the window since the last frame. -/
def State.silent (s : State) (now : Time) : Bool :=
  s.silenceWindow != 0 && s.conn && (s.silenceWindow.setWidth 32 < elapsed now s.lastFrameTime)

/-- `port_open_o` (R50): while 1 the receive handler of port `CONTROL` is registered. -/
def State.portOpen (s : State) : Bool := s.started

/-- `conn_o` (R50). -/
def State.connOut (s : State) : Bool := s.conn

/-- `cur_cmd_o` (R50). -/
def State.curCmdOut (s : State) : ControlMessage := s.curCmd

/-- `cur_cmd_valid_o` (R50). -/
def State.curCmdValidOut (s : State) : Bool := s.curCmdValid

/-- `irq_o` (R50, R199): a level, with no effect inside the core. -/
def State.irq (s : State) : Bool := (s.events &&& s.irqEn) != 0

/-- `cmd_ready_o` (R48): 0 until the response of the last accepted command has been taken. -/
def State.cmdReady (s : State) : Bool := s.rsp.isNone

/-- `rsp_valid_o` (R49). -/
def State.rspValid (s : State) : Bool := s.rsp.isSome

/-- The `TX` bit of a response word (R89). -/
def txBit : Word := 0x80000000

/-- The call `send(rsp_buf[0..rsp_len-1])` that the host owes the transport for a response with `TX = 1` (R49, R221). -/
def Response.owedSend : Response → Option (List Byte)
  | .ok r => if r.word &&& txBit = txBit then r.bytes else none
  | .raised _ => none

end Sys2Proof.Machine
end

