-- ==== Sys2Proof/Machine/Wire.lean ====
section
/-! DEFINITION. The wire formats (spec/30_encoding.md R80 to R86) as the functions the operations share: `Encode` and
`Decode` (spec/40_frame_codec.md R111, R112), `PackCF`, `UnpackCF` and `Unique` (spec/41_control_frame.md R120 to
R122), `PackRP` and `UnpackRP` (spec/42_reply_message.md R130, R131). -/

namespace Sys2Proof.Machine

open Sys2Proof

/-- `Encode(h, P)` (R111): the length byte, the header, the payload; `FRAME_TOO_LARGE` above 120 bytes in all. -/
def encodeFrame (h : Header) (P : List Byte) : Except Status (List Byte) :=
  if maxFrameBytes < 3 + P.length then .error .frameTooLarge
  else .ok (BitVec.ofNat 8 (P.length + 2) :: h.address :: (h.port ++ h.typ) :: P)

/-- `Decode(B)` (R112): fewer than 3 bytes, or a length byte below 2, is `FRAME_TOO_SHORT`; otherwise the payload has
`min(L - 2, n - 3)` bytes. -/
def decodeFrame (B : List Byte) : Except Status (Header × List Byte) :=
  match B with
  | [] | [_] | [_, _] => .error .frameTooShort
  | len :: address :: portType :: rest =>
    if len.toNat < 2 then .error .frameTooShort
    else
      .ok ({ address := address, port := portType.extractLsb' 4 4, typ := portType.extractLsb' 0 4 },
        rest.take (min (len.toNat - 2) rest.length))

/-- The stream position at which slot `k` starts (R83). -/
def slotStart (k : Fin 6) : Nat := 4 + cmBits * k.val

/-- Writes the seven fields of `m` at position `b` (R84, R120). -/
def putMessage (B : List Byte) (b : Nat) (m : ControlMessage) : List Byte :=
  let B := putBits B (b + 0) m.recipientId
  let B := putBits B (b + 8) m.velocityX
  let B := putBits B (b + 24) m.velocityY
  let B := putBits B (b + 40) m.velocityW
  let B := putBits B (b + 56) m.kickPower
  let B := putBits B (b + 72) m.chipOrKick
  putBits B (b + 73) m.kickTriggerMode

/-- Reads the seven fields of a message at position `b` (R84, R121). -/
def getMessage (B : List Byte) (b : Nat) : ControlMessage :=
  { recipientId := getBits B (b + 0) 8
    velocityX := getBits B (b + 8) 16
    velocityY := getBits B (b + 24) 16
    velocityW := getBits B (b + 40) 16
    kickPower := getBits B (b + 56) 16
    chipOrKick := getBits B (b + 72) 1
    kickTriggerMode := getBits B (b + 73) 2 }

/-- The message in slot `k`. -/
def ControlFrame.msg (F : ControlFrame) (k : Fin 6) : ControlMessage := F.slots[k.val]

/-- `PackCF(F)` (R120): total; positions 454 and 455 stay 0. -/
def packCF (F : ControlFrame) : List Byte :=
  slotIndices.foldl (fun B k => putMessage B (slotStart k) (F.msg k))
    (putBits (List.replicate cfBytes 0) 0 F.frameType)

/-- `Unique(F)` (R122): no two slots `j < k` carry the same nonzero `recipient_id`. -/
def ControlFrame.unique (F : ControlFrame) : Bool :=
  slotIndices.all fun k => slotIndices.all fun j =>
    !(j.val < k.val && (F.msg j).recipientId == (F.msg k).recipientId && (F.msg k).recipientId != idNone)

/-- The frame whose fields stand in the first 57 bytes of `B` (R121), before the uniqueness check. -/
def readCF (B : List Byte) : ControlFrame :=
  { frameType := getBits B 0 4, slots := slotTable fun k => getMessage B (slotStart k) }

/-- `UnpackCF(B)` (R121): `FRAME_TOO_SHORT` below 57 bytes, `DUPLICATE_RECIPIENT` if not unique. Bytes after the 57th
and the two pad bits are ignored (R85). -/
def unpackCF (B : List Byte) : Except Status ControlFrame :=
  if B.length < cfBytes then .error .frameTooShort
  else if (readCF B).unique then .ok (readCF B)
  else .error .duplicateRecipient

/-- `PackRP(r)` (R130). -/
def packRP (r : ReplyMessage) : List Byte := [r.senderId, r.hardwareRevision ++ 0#4]

/-- `UnpackRP(B)` (R131): bytes after the second and the four pad bits are ignored. -/
def unpackRP (B : List Byte) : Except Status ReplyMessage :=
  match B with
  | [] | [_] => .error .frameTooShort
  | b0 :: b1 :: _ => .ok { senderId := b0, hardwareRevision := b1.extractLsb' 4 4 }

/-- The header of the frames the core emits (R158, R171): `BASE_ADDR`, `PORT_CONTROL`, `TYPE_CONTROL`. -/
def controlHeader (cfg : Config) : Header :=
  { address := baseAddr, port := cfg.portControl, typ := cfg.typeControl }

/-- The header is that of a frame for the control port and of the control type (R151, R166). `address` is not looked
at. -/
def forControl (cfg : Config) (h : Header) : Bool := h.port == cfg.portControl && h.typ == cfg.typeControl

/-- The pseudo-operation `ENCCTL cf` (R96): `ENCCF`, then `ENC` with the control header. -/
def encCtl (cfg : Config) (F : ControlFrame) : Except Status (List Byte) := encodeFrame (controlHeader cfg) (packCF F)

/-- The pseudo-operation `ENCREPLY id, hw` (R96): `ENCRP`, then `ENC` with the control header. -/
def encReply (cfg : Config) (r : ReplyMessage) : Except Status (List Byte) :=
  encodeFrame (controlHeader cfg) (packRP r)

/-- The pending command that a control message posts (R170). -/
def ControlMessage.command (m : ControlMessage) : MotionCommand :=
  { velocityX := m.velocityX, velocityY := m.velocityY, velocityW := m.velocityW, kickPower := m.kickPower,
    chipOrKick := m.chipOrKick, kickTriggerMode := m.kickTriggerMode }

/-- The control message that carries a command to a robot (R174). -/
def MotionCommand.toRobot (c : MotionCommand) (id : RobotId) : ControlMessage :=
  { recipientId := id, velocityX := c.velocityX, velocityY := c.velocityY, velocityW := c.velocityW,
    kickPower := c.kickPower, chipOrKick := c.chipOrKick, kickTriggerMode := c.kickTriggerMode }

end Sys2Proof.Machine
end

