-- ==== Sys2Proof/Machine/Ops.lean ====
section
/-! DEFINITION. The shared operations: ending an operation with its results or with a status (spec/60_exceptions.md
R190 to R196), the prologue of every operation (spec/43_protocol_entity.md R140 to R142), the control registers
(spec/10_state.md R30 to R41), the register files of the server (R42 to R44), and accepting a command (R47 to R49). -/

namespace Sys2Proof.Machine

open Sys2Proof

/-! ### How an operation ends -/

/-- The operation ends `OK`: the response carries its results (R49, R12 `return`). -/
def State.respond (s : State) (r : Result) : State := { s with rsp := some (.ok r) }

/-- Taking an exception (R192, R195): the operation ends with a status other than `OK`. Its response carries the
status and nothing else, and no state is written. There is no handler, so there is no return from one (R196). -/
def State.raise (s : State) (e : Status) : State := { s with rsp := some (.raised e) }

/-- The end of an operation that began in `s`: its state writes take effect together with its results, or, if it
raised, none of them does (R12, R192). -/
def State.complete (s : State) (r : Except Status (State × Result)) : Host.Outcome State Fault Refusal :=
  .next (match r with
    | .ok (t, res) => t.respond res
    | .error e => s.raise e)

/-! ### The register files of the server -/

/-- `cli[id]` (R42). Id 0 has no entry and reads as an invalid record; no reachable state asks for it (DESIGN CHOICE,
safe, log entry 3). -/
def State.cliAt (s : State) (id : RobotId) : CliRecord :=
  if id = 0 then CliRecord.empty else s.cli[id.toNat - 1]'(by have := id.isLt; omega)

/-- `cli[id] <- r` (R42). Id 0 has no entry and nothing is written. -/
def State.setCli (s : State) (id : RobotId) (r : CliRecord) : State :=
  if id = 0 then s else { s with cli := s.cli.set (id.toNat - 1) r (by have := id.isLt; omega) }

/-- `slot[k]` (R43). -/
def State.slotAt (s : State) (k : Fin 6) : SlotEntry := s.slot[k.val]

/-- `slot[k] <- e` (R43). -/
def State.setSlot (s : State) (k : Fin 6) (e : SlotEntry) : State := { s with slot := s.slot.set k.val e }

/-- `claim[k]` (R44). -/
def State.claimAt (s : State) (k : Fin 6) : Claim := s.claim[k.val]

/-- `claim[k] <- c` (R44). -/
def State.setClaim (s : State) (k : Fin 6) (c : Claim) : State := { s with claim := s.claim.set k.val c }

/-- The slot whose owner is `id` (R167, R170, R175). R45(a) leaves at most one; were there several, the lowest (DESIGN
CHOICE, unsafe only in states no run reaches, log entry 11). -/
def State.ownedSlot (s : State) (id : RobotId) : Option (Fin 6) :=
  slotIndices.find? fun k => (s.slotAt k).owner == id

/-! ### The control registers -/

/-- `csr[a]` (R31, R146), unnamed bits 0; `none` at an address that does not exist. -/
def State.csrRead (s : State) (a : BitVec 8) : Option Half :=
  match a.toNat with
  | 0x00 => some (s.cfg.role.bit.setWidth 16)
  | 0x01 => some s.status
  | 0x02 => some (s.events.setWidth 16)
  | 0x03 => some (s.irqEn.setWidth 16)
  | 0x04 => some (s.ownId.setWidth 16)
  | 0x05 => some (s.hwRev.setWidth 16)
  | 0x06 => some s.clientTimeout
  | 0x07 => some s.slotDuration
  | 0x08 => some s.silenceWindow
  | 0x09 => some ((BitVec.ofBool s.claimEn).setWidth 16)
  | _ => none

/-- `csr[a] <- v` (R147): bits above the register's field are dropped, `EVENTS` is write-1-to-clear; `none` at a
read-only or absent address. -/
def State.csrWrite (s : State) (a : BitVec 8) (v : Half) : Option State :=
  match a.toNat with
  | 0x02 => some (s.clearEvents (v.extractLsb' 0 7))
  | 0x03 => some { s with irqEn := v.extractLsb' 0 7 }
  | 0x04 => some { s with ownId := v.extractLsb' 0 8 }
  | 0x05 => some { s with hwRev := v.extractLsb' 0 4 }
  | 0x06 => some { s with clientTimeout := v }
  | 0x07 => some { s with slotDuration := v }
  | 0x08 => some { s with silenceWindow := v }
  | 0x09 => some { s with claimEn := v.getLsbD 0 }
  | _ => none

/-! ### The prologue -/

/-- The role an operation belongs to, `none` for those that serve both (R90, R141). -/
def servedBy : Instr → Option Role
  | .rxc | .ctick => some .client
  | .rxr _ | .sweep | .setcmd | .build | .rdcli _ | .rdslot _ => some .server
  | .nop | .enc _ _ _ | .dec | .enccf | .deccf | .encrp _ _ | .decrp => none
  | .start | .stop | .csrr _ | .csrw _ _ => none

/-- The operations that need `started = 1` (R90, R142). -/
def needsStarted : Instr → Bool
  | .rxc | .ctick | .rxr _ | .sweep | .setcmd | .build => true
  | .nop | .enc _ _ _ | .dec | .enccf | .deccf | .encrp _ _ | .decrp => false
  | .start | .stop | .csrr _ | .csrw _ _ | .rdcli _ | .rdslot _ => false

/-- An operand is out of range for the operation (R88, R92, R194 place 4). -/
def operandOutOfRange (i : Instr) (s : State) : Bool :=
  match i with
  | .dec | .deccf | .decrp | .rxc | .rxr _ => s.side.tooLong
  | .csrr a => (s.csrRead a).isNone
  | .csrw a v => (s.csrWrite a v).isNone
  | .setcmd => (s.side.cf.msg 0).recipientId == 0
  | .rdcli id => id == 0
  | .rdslot k => (slotOf k).isNone
  | .nop | .enc _ _ _ | .enccf | .encrp _ _ | .start | .stop | .ctick | .sweep | .build => false

/-- The operation belongs to the role that this instance does not have (R141). -/
def wrongRole (i : Instr) (s : State) : Bool := (servedBy i).any (· != s.cfg.role)

/-- The operation needs `started = 1` and finds 0 (R142). -/
def notStarted (i : Instr) (s : State) : Bool := needsStarted i && !s.started

/-- `Prologue` (R140) for an operation that the word does select: role, `started`, operand range, in this order. -/
def prologue (i : Instr) (s : State) : Except Status Unit :=
  if wrongRole i s then .error .wrongRole
  else if notStarted i s then .error .notStarted
  else if operandOutOfRange i s then .error .badOperand
  else .ok ()

/-- One operation from start to end: the prologue, then the body (R140). -/
def State.serve (s : State) (i : Instr) (body : Except Status (State × Result)) : Host.Outcome State Fault Refusal :=
  s.complete (match prologue i s with
    | .error e => .error e
    | .ok () => body)

/-! ### The channels -/

/-- An edge with `rst = 1` (R47, R215): every piece of state takes its reset value, and a response not yet taken is
gone. The configuration and what the host will drive later are not state of the core. -/
def State.resetEdge (s : State) : State := { State.resetWith s.cfg with inputs := s.inputs }

/-- The command of the edge `e` is accepted: the side operands are sampled (R48). -/
def State.accept (s : State) (e : Edge) : State := { s with side := e.side }

/-- The host takes the response (R49). -/
def State.takeResponse (s : State) : State := { s with rsp := none }

end Sys2Proof.Machine
end

