-- ==== Sys2Proof/Machine/Client.lean ====
section
/-! DEFINITION. The robot-side client (spec/44_client.md): `RXC` and `CTICK`. Of each operation, the body
is what follows the prologue. -/

namespace Sys2Proof.Machine

open Sys2Proof

/-- `ClientFront(B)` (R151): from bytes to a valid control frame, or a drop. -/
def clientFront (cfg : Config) (B : List Byte) : Except Status ControlFrame :=
  match decodeFrame B with
  | .error e => .error e
  | .ok (h, P) =>
    if forControl cfg h then
      match unpackCF P with
      | .error e => .error e
      | .ok F => if F.frameType = cfg.typeControl then .ok F else .error .ignored
    else .error .ignored

/-- The open slots of the frame, `openlist` (R152), in ascending order. -/
def openSlots (F : ControlFrame) : List (Fin 6) :=
  slotIndices.filter fun k => (F.msg k).recipientId == idNone

/-- The first slot that carries `id` (R152): none for a client without an id. -/
def matchSlot (F : ControlFrame) (id : RobotId) : Option (Fin 6) :=
  if id = idNone then none else slotIndices.find? fun k => (F.msg k).recipientId == id

/-- `Choose(openlist, open, rnd) = openlist[rnd mod open]` (R155), when there is an open slot. -/
def chooseSlot (openList : List (Fin 6)) (rnd : BitVec 8) : Option (Fin 6) :=
  if h : 0 < openList.length then some (openList[rnd.toNat % openList.length]'(Nat.mod_lt _ h)) else none

/-- The slot to claim when the own id was not found (R154): none when claiming is off, the client has no id, or no
slot is open. -/
def claimSlot (s : State) (F : ControlFrame) (rnd : BitVec 8) : Option (Fin 6) :=
  if s.claimEn ∧ s.ownId ≠ idNone then chooseSlot (openSlots F) rnd else none

/-- Schedules a reply in slot `k`, replacing any pending one (R25, R153, R154). -/
def State.scheduleReply (s : State) (k : Fin 6) (now : Time) : State :=
  { s with replyPending := true, replySlot := slotBits k, replyArmedTime := now }

/-- Own id found at slot `k` of `F` (R153). -/
def State.rxcMatched (s : State) (F : ControlFrame) (k : Fin 6) (now : Time) : State :=
  { s.noteEvent .connUp (!s.conn) with
    lastFrameTime := now
    curCmd := F.msg k
    curCmdValid := true
    conn := true
    replyPending := true
    replySlot := slotBits k
    replyArmedTime := now }

/-- Own id not found (R154), before a claim is scheduled: disconnected, and the pending reply is cancelled. -/
def State.rxcUnmatched (s : State) (now : Time) : State :=
  { s.noteEvent .connDown s.conn with lastFrameTime := now, conn := false, curCmdValid := false, replyPending := false }

/-- The response word of `RXC` (R89): `MATCH` 0, `CLAIM` 1, `RSLOT` 4:2, `OPEN` 7:5, `CONN` 8, `EDGE_UP` 9,
`EDGE_DOWN` 10, `PENDING` 11. -/
def rxcWord (found claim : Bool) (rslot : BitVec 3) (openCount : Nat) (conn edgeUp edgeDown pending : Bool) : Word :=
  rwFlag 0 found ||| rwFlag 1 claim ||| rwField 2 rslot ||| rwField 5 (BitVec.ofNat 3 openCount) ||| rwFlag 8 conn
    ||| rwFlag 9 edgeUp ||| rwFlag 10 edgeDown ||| rwFlag 11 pending

/-- `RXC` after the front end has accepted the frame `F` (R156). -/
def rxcAccepted (s : State) (F : ControlFrame) : State × Result :=
  let now := s.side.now
  let openCount := (openSlots F).length
  match matchSlot F s.ownId with
  | some k => (s.rxcMatched F k now, Result.ofWord (rxcWord true false (slotBits k) openCount true (!s.conn) false true))
  | none =>
    match claimSlot s F s.side.rnd with
    | some j =>
      ((s.rxcUnmatched now).scheduleReply j now,
        Result.ofWord (rxcWord false true (slotBits j) openCount false false s.conn true))
    | none => (s.rxcUnmatched now, Result.ofWord (rxcWord false false 0 openCount false false s.conn false))

/-- The body of `RXC` (R156). -/
def rxcBody (s : State) : Except Status (State × Result) :=
  match clientFront s.cfg s.side.bytes with
  | .error e => .error e
  | .ok F => .ok (rxcAccepted s F)

/-- `RXC` (R156). -/
def execRxc (s : State) : Host.Outcome State Fault Refusal := s.serve .rxc (rxcBody s)

/-- `ReplyFrame()` (R158): `04 01 pt id h0`. -/
def replyFrame (s : State) : Except Status (List Byte) :=
  encReply s.cfg { senderId := s.ownId, hardwareRevision := s.hwRev }

/-- The first half of `CTICK` (R157): a due reply is no longer pending. -/
def State.fireReply (s : State) (now : Time) : State :=
  { s with replyPending := s.replyPending && !s.replyDue now }

/-- The second half of `CTICK` (R157, R159): the silence check. -/
def State.checkSilence (s : State) (now : Time) : State :=
  { s.noteEvent .connDown (s.silent now) with
    conn := s.conn && !s.silent now
    curCmdValid := s.curCmdValid && !s.silent now }

/-- The response word of `CTICK` (R89): `TX` 31, `PENDING` 0, `SILENCE` 1. -/
def ctickWord (tx pending silence : Bool) : Word :=
  (if tx then txBit else 0) ||| rwFlag 0 pending ||| rwFlag 1 silence

/-- The state `CTICK` at `now` leaves (R157). -/
def State.ctick (s : State) (now : Time) : State := (s.fireReply now).checkSilence now

/-- The body of `CTICK` (R157): a due reply is sent unless the client has no id any more, and then silence is checked. -/
def ctickBody (s : State) : Except Status (State × Result) :=
  if s.replyDue s.side.now ∧ s.ownId ≠ idNone then
    match replyFrame s with
    | .error e => .error e
    | .ok W =>
      .ok (s.ctick s.side.now,
        Result.ofBytes (ctickWord true (s.ctick s.side.now).replyPending ((s.fireReply s.side.now).silent s.side.now)) W)
  else
    .ok (s.ctick s.side.now,
      Result.ofWord (ctickWord false (s.ctick s.side.now).replyPending ((s.fireReply s.side.now).silent s.side.now)))

/-- `CTICK` (R157). -/
def execCtick (s : State) : Host.Outcome State Fault Refusal := s.serve .ctick (ctickBody s)

end Sys2Proof.Machine
end

