-- ==== Sys2Proof/Machine/Codec.lean ====
section
/-! DEFINITION. The six codec operations (spec/40_frame_codec.md, 41_control_frame.md, 42_reply_message.md): pure, in
either role, started or not. Of each operation, the body is what follows the prologue. -/

namespace Sys2Proof.Machine

open Sys2Proof

/-- The body of `ENC` (R111). -/
def encBody (address : Byte) (port typ : BitVec 4) (s : State) : Except Status (State × Result) :=
  match encodeFrame { address := address, port := port, typ := typ } s.side.bytes with
  | .error e => .error e
  | .ok W => .ok (s, Result.ofBytes 0 W)

/-- `ENC` (R111). -/
def execEnc (address : Byte) (port typ : BitVec 4) (s : State) : Host.Outcome State Fault Refusal :=
  s.serve (.enc address port typ) (encBody address port typ s)

/-- The body of `DEC` (R112): `rw` has `address` in 23:16, `port` in 7:4, `type` in 3:0. -/
def decBody (s : State) : Except Status (State × Result) :=
  match decodeFrame s.side.bytes with
  | .error e => .error e
  | .ok (h, P) => .ok (s, Result.ofBytes (rwField 16 h.address ||| rwField 4 h.port ||| rwField 0 h.typ) P)

/-- `DEC` (R112). -/
def execDec (s : State) : Host.Outcome State Fault Refusal := s.serve .dec (decBody s)

/-- The body of `ENCCF` (R120). -/
def enccfBody (s : State) : Except Status (State × Result) := .ok (s, Result.ofBytes 0 (packCF s.side.cf))

/-- `ENCCF` (R120). -/
def execEnccf (s : State) : Host.Outcome State Fault Refusal := s.serve .enccf (enccfBody s)

/-- The body of `DECCF` (R121). -/
def deccfBody (s : State) : Except Status (State × Result) :=
  match unpackCF s.side.bytes with
  | .error e => .error e
  | .ok F => .ok (s, { word := 0, bytes := none, cf := some F, time := none })

/-- `DECCF` (R121). -/
def execDeccf (s : State) : Host.Outcome State Fault Refusal := s.serve .deccf (deccfBody s)

/-- The body of `ENCRP` (R130). -/
def encrpBody (senderId : RobotId) (hardwareRevision : BitVec 4) (s : State) : Except Status (State × Result) :=
  .ok (s, Result.ofBytes 0 (packRP { senderId := senderId, hardwareRevision := hardwareRevision }))

/-- `ENCRP` (R130). -/
def execEncrp (senderId : RobotId) (hardwareRevision : BitVec 4) (s : State) : Host.Outcome State Fault Refusal :=
  s.serve (.encrp senderId hardwareRevision) (encrpBody senderId hardwareRevision s)

/-- The body of `DECRP` (R131): `rw` has `sender_id` in 23:16, `hardware_revision` in 3:0. -/
def decrpBody (s : State) : Except Status (State × Result) :=
  match unpackRP s.side.bytes with
  | .error e => .error e
  | .ok r => .ok (s, Result.ofWord (rwField 16 r.senderId ||| rwField 0 r.hardwareRevision))

/-- `DECRP` (R131). -/
def execDecrp (s : State) : Host.Outcome State Fault Refusal := s.serve .decrp (decrpBody s)

end Sys2Proof.Machine
end

