-- ==== Sys2Proof/Machine/Entity.lean ====
section
/-! DEFINITION. The protocol entity's lifecycle and the register accesses (spec/43_protocol_entity.md). Of each
operation, the body is what follows the prologue. -/

namespace Sys2Proof.Machine

open Sys2Proof

/-- The body of `NOP` (R143). -/
def nopBody (s : State) : Except Status (State × Result) := .ok (s, Result.ofWord 0)

/-- `NOP` (R143). -/
def execNop (s : State) : Host.Outcome State Fault Refusal := s.serve .nop (nopBody s)

/-- The body of `START` (R144): `rw[0]` is `CHANGED`. -/
def startBody (s : State) : Except Status (State × Result) :=
  .ok ({ s with started := true }, Result.ofWord (rwFlag 0 (!s.started)))

/-- `START` (R144). -/
def execStart (s : State) : Host.Outcome State Fault Refusal := s.serve .start (startBody s)

/-- What `STOP` does to a client (R145): disconnected, no valid command, no pending reply. -/
def State.stopClient (s : State) : State :=
  { s.noteEvent .connDown s.conn with started := false, conn := false, curCmdValid := false, replyPending := false }

/-- What `STOP` does to a server (R145): every slot freed, every pending command and claim dropped. -/
def State.stopServer (s : State) : State :=
  { s.noteEvent .slotFreed (slotIndices.any fun k => (s.slotAt k).owner != 0) with
    started := false
    slot := slotTable fun k => { s.slotAt k with owner := 0, cmdValid := false }
    claim := slotTable fun _ => Claim.cleared }

/-- The body of `STOP` (R145): `rw[0]` is `CHANGED`. -/
def stopBody (s : State) : Except Status (State × Result) :=
  match s.cfg.role with
  | .client => .ok (s.stopClient, Result.ofWord (rwFlag 0 s.started))
  | .server => .ok (s.stopServer, Result.ofWord (rwFlag 0 s.started))

/-- `STOP` (R145). -/
def execStop (s : State) : Host.Outcome State Fault Refusal := s.serve .stop (stopBody s)

/-- The body of `CSRR` (R146): `rw[15:0]` is the register's value. -/
def csrrBody (csr : BitVec 8) (s : State) : Except Status (State × Result) :=
  match s.csrRead csr with
  | none => .error .badOperand
  | some v => .ok (s, Result.ofWord (rwField 0 v))

/-- `CSRR` (R146). -/
def execCsrr (csr : BitVec 8) (s : State) : Host.Outcome State Fault Refusal := s.serve (.csrr csr) (csrrBody csr s)

/-- The body of `CSRW` (R147). -/
def csrwBody (csr : BitVec 8) (data : Half) (s : State) : Except Status (State × Result) :=
  match s.csrWrite csr data with
  | none => .error .badOperand
  | some t => .ok (t, Result.ofWord 0)

/-- `CSRW` (R147). -/
def execCsrw (csr : BitVec 8) (data : Half) (s : State) : Host.Outcome State Fault Refusal :=
  s.serve (.csrw csr data) (csrwBody csr data s)

end Sys2Proof.Machine
end

