-- ==== Sys2Proof/Machine/Server.lean ====
section
/-! DEFINITION. The base-station server (spec/45_server.md): `RXR`, `SWEEP`, `SETCMD`, `BUILD`, `RDCLI`, `RDSLOT`. Of each
operation, the body is what follows the prologue. -/

namespace Sys2Proof.Machine

open Sys2Proof

/-! ### Receiving a reply -/

/-- The front end of `RXR` (R166): from bytes to a reply of a robot, or a drop. -/
def serverFront (cfg : Config) (B : List Byte) : Except Status ReplyMessage :=
  match decodeFrame B with
  | .error e => .error e
  | .ok (h, P) =>
    if forControl cfg h then
      match unpackRP P with
      | .error e => .error e
      | .ok r => if r.senderId = idNone then .error .badSender else .ok r
    else .error .ignored

/-- The record of a robot whose reply `r` arrived at `now` (R166). -/
def ReplyMessage.record (r : ReplyMessage) (now : Time) : CliRecord :=
  { valid := true, lastPacketTime := now, hardwareRevision := r.hardwareRevision, reclaimable := false }

/-- `RegisterClaim(id, s)` (R167): the state with the claim noted, and 0 none, 1 registered, 2 collided. -/
def State.registerClaim (s : State) (id : RobotId) (rxSlot : BitVec 3) : State × BitVec 2 :=
  if (s.ownedSlot id).isSome then (s, 0)
  else
    match slotOf rxSlot with
    | none => (s, 0)
    | some k =>
      if (s.slotAt k).owner ≠ 0 then (s, 0)
      else
        match (s.claimAt k).state with
        | .none => (s.setClaim k { state := .one, id := id }, 1)
        | .one =>
          if (s.claimAt k).id = id then (s, 1) else (s.setClaim k { state := .collided, id := 0 }, 2)
        | .collided => (s, 2)

/-- The upsert of `RXR` (R166): the sender's record, and `CLIENT_NEW` for a first reply. -/
def State.recordReply (s : State) (r : ReplyMessage) (now : Time) : State :=
  (s.setCli r.senderId (r.record now)).noteEvent .clientNew (!(s.cliAt r.senderId).valid)

/-- The response word of `RXR` (R89): `sender_id` 23:16, `hardware_revision` 3:0, `NEW` 8, `CLAIM` 10:9. -/
def rxrWord (r : ReplyMessage) (new : Bool) (claim : BitVec 2) : Word :=
  rwField 16 r.senderId ||| rwField 0 r.hardwareRevision ||| rwFlag 8 new ||| rwField 9 claim

/-- `RXR` after the front end has accepted the reply `r` (R166). -/
def rxrAccepted (s : State) (rxSlot : BitVec 3) (r : ReplyMessage) : State × Result :=
  let claimed := (s.recordReply r s.side.now).registerClaim r.senderId rxSlot
  (claimed.1, Result.ofWord (rxrWord r (!(s.cliAt r.senderId).valid) claimed.2))

/-- The body of `RXR` (R166). -/
def rxrBody (rxSlot : BitVec 3) (s : State) : Except Status (State × Result) :=
  match serverFront s.cfg s.side.bytes with
  | .error e => .error e
  | .ok r => .ok (rxrAccepted s rxSlot r)

/-- `RXR` (R166). -/
def execRxr (rxSlot : BitVec 3) (s : State) : Host.Outcome State Fault Refusal :=
  s.serve (.rxr rxSlot) (rxrBody rxSlot s)

/-! ### Timeouts -/

/-- More than `CLIENT_TIMEOUT` ms have passed since the record's last reply (R38, R169): strictly more. -/
def State.expired (s : State) (c : CliRecord) (now : Time) : Bool :=
  c.valid && (s.clientTimeout.setWidth 32 < elapsed now c.lastPacketTime)

/-- A sweep at `now` newly flags the record (R169). -/
def State.timesOut (s : State) (now : Time) (c : CliRecord) : Bool := s.expired c now && !c.reclaimable

/-- What a sweep at `now` makes of a record (R169): only `reclaimable` is ever written. -/
def State.sweepRecord (s : State) (now : Time) (c : CliRecord) : CliRecord :=
  { c with reclaimable := c.reclaimable || s.timesOut now c }

/-- The number of records that a sweep at `now` newly flags, `NEW_TIMEOUTS` (R169). -/
def State.newTimeouts (s : State) (now : Time) : Nat := s.cli.toList.countP (s.timesOut now)

/-- `Sweep(now)` (R169). -/
def State.sweep (s : State) (now : Time) : State :=
  { s.noteEvent .clientTimeout (s.newTimeouts now != 0) with
    cli := ⟨(s.cli.toList.map (s.sweepRecord now)).toArray, by simp⟩ }

/-- The owner of slot `k` is reclaimable (R168, R172). -/
def State.ownerReclaimable (s : State) (k : Fin 6) : Bool :=
  (s.slotAt k).owner != 0 && (s.cliAt (s.slotAt k).owner).reclaimable

/-- `ReclaimMask()` (R168). -/
def State.reclaimMask (s : State) : BitVec 6 := slotMask s.ownerReclaimable

/-- The body of `SWEEP` (R168): `RECLAIM_MASK` 5:0, `NEW_TIMEOUTS` 16:8. -/
def sweepBody (s : State) : Except Status (State × Result) :=
  .ok (s.sweep s.side.now,
    Result.ofWord (rwField 0 (s.sweep s.side.now).reclaimMask ||| rwField 8 (BitVec.ofNat 9 (s.newTimeouts s.side.now))))

/-- `SWEEP` (R168). -/
def execSweep (s : State) : Host.Outcome State Fault Refusal := s.serve .sweep (sweepBody s)

/-! ### Commands and the next frame -/

/-- The command of the message `m` is posted to slot `k` (R170); the latest wins. -/
def State.postCommand (s : State) (k : Fin 6) (m : ControlMessage) : State :=
  s.setSlot k { s.slotAt k with cmd := m.command, cmdValid := true }

/-- The body of `SETCMD` (R170): the message is `cf.slots[0]`, and `rw[2:0]` is the slot its robot owns. -/
def setcmdBody (s : State) : Except Status (State × Result) :=
  match s.ownedSlot (s.side.cf.msg 0).recipientId with
  | none => .error .notAssigned
  | some k => .ok (s.postCommand k (s.side.cf.msg 0), Result.ofWord (rwField 0 (slotBits k)))

/-- `SETCMD` (R170). -/
def execSetcmd (s : State) : Host.Outcome State Fault Refusal := s.serve .setcmd (setcmdBody s)

/-- `Free()` (R172): the slots of reclaimable owners become open, their pending commands are dropped. -/
def State.freeSlots (s : State) : State :=
  { s.noteEvent .slotFreed (slotIndices.any s.ownerReclaimable) with
    slot := slotTable fun k =>
      if s.ownerReclaimable k then { s.slotAt k with owner := 0, cmdValid := false } else s.slotAt k }

/-- The claim on slot `k` is granted in the state `s`, which holds the grants made so far (R173): a single claimant,
an open slot, a live robot that holds no slot. -/
def State.grants (s : State) (k : Fin 6) : Bool :=
  (s.claimAt k).state == .one && (s.slotAt k).owner == 0 && (s.cliAt (s.claimAt k).id).valid
    && !(s.cliAt (s.claimAt k).id).reclaimable && (s.ownedSlot (s.claimAt k).id).isNone

/-- The state of `Commit`'s loop (R173): the machine, `assigned`, `collided`. -/
structure CommitAcc where
  state : State
  assigned : List (Fin 6)
  collided : List (Fin 6)

/-- The grant of one turn of `Commit`'s loop (R173): the claimant owns slot `k`, with no command pending. -/
def State.grantSlot (s : State) (k : Fin 6) : State :=
  if s.grants k then s.setSlot k { s.slotAt k with owner := (s.claimAt k).id, cmdValid := false } else s

/-- One turn of `Commit`'s loop (R173): grants or refuses the claim on slot `k`, then clears it. -/
def commitSlot (acc : CommitAcc) (k : Fin 6) : CommitAcc :=
  { state := (acc.state.grantSlot k).setClaim k Claim.cleared
    assigned := if acc.state.grants k then k :: acc.assigned else acc.assigned
    collided := if (acc.state.claimAt k).state = .collided then k :: acc.collided else acc.collided }

/-- The loop of `Commit` (R173), slots in ascending order. -/
def State.commitLoop (s : State) : CommitAcc :=
  slotIndices.foldl commitSlot { state := s, assigned := [], collided := [] }

/-- `Commit()` (R173): the state after it. -/
def State.commit (s : State) : State :=
  ((s.commitLoop.state).noteEvent .slotAssigned (!s.commitLoop.assigned.isEmpty)).noteEvent .slotCollision
    (!s.commitLoop.collided.isEmpty)

/-- The mask of a list of slots. -/
def maskOf (l : List (Fin 6)) : BitVec 6 := slotMask fun k => l.contains k

/-- The message of slot `k` in the next frame (R174): zero if open, the pending command, or the hold/zero command. -/
def State.nextMessage (s : State) (k : Fin 6) : ControlMessage :=
  if (s.slotAt k).owner = 0 then ControlMessage.zero
  else if (s.slotAt k).cmdValid then (s.slotAt k).cmd.toRobot (s.slotAt k).owner
  else MotionCommand.zero.toRobot (s.slotAt k).owner

/-- The frame `Assemble()` builds (R174). -/
def State.nextFrame (s : State) : ControlFrame :=
  { frameType := s.cfg.typeControl, slots := slotTable s.nextMessage }

/-- The state after `Assemble()` (R174): the commands it placed are consumed. -/
def State.consumeCommands (s : State) : State :=
  { s with
    slot := slotTable fun k =>
      { s.slotAt k with cmdValid := (s.slotAt k).cmdValid && (s.slotAt k).owner == 0 } }

/-- The response word of `BUILD` (R89): `TX` 31, `FREED_MASK` 5:0, `ASSIGNED_MASK` 13:8, `COLLIDED_MASK` 21:16. -/
def buildWord (freed assigned collided : BitVec 6) : Word :=
  txBit ||| rwField 0 freed ||| rwField 8 assigned ||| rwField 16 collided

/-- The state in which `BUILD` at `now` arbitrates: swept and freed (R171). -/
def State.arbitrated (s : State) (now : Time) : State := (s.sweep now).freeSlots

/-- The state in which `BUILD` at `now` assembles: swept, freed, and the claims granted (R171). -/
def State.assigned (s : State) (now : Time) : State := (s.arbitrated now).commit

/-- The body of `BUILD` (R171): sweep, free, commit, assemble, in this order. -/
def buildBody (s : State) : Except Status (State × Result) :=
  match encCtl s.cfg (s.assigned s.side.now).nextFrame with
  | .error e => .error e
  | .ok W =>
    .ok ((s.assigned s.side.now).consumeCommands,
      Result.ofBytes
        (buildWord (s.sweep s.side.now).reclaimMask (maskOf (s.arbitrated s.side.now).commitLoop.assigned)
          (maskOf (s.arbitrated s.side.now).commitLoop.collided))
        W)

/-- `BUILD` (R171). -/
def execBuild (s : State) : Host.Outcome State Fault Refusal := s.serve .build (buildBody s)

/-! ### Reading the tables -/

/-- The number `RDCLI` gives for the slot a robot holds (R175): 7 for none. -/
def slotNumber : Option (Fin 6) → BitVec 3
  | some k => slotBits k
  | none => 7

/-- The body of `RDCLI` (R175): `valid` 0, `reclaimable` 1, `EXPIRED` 2, `hardware_revision` 6:3, `SLOT` 10:8, and
`rsp_time` is `last_packet_time`. -/
def rdcliBody (id : RobotId) (s : State) : Except Status (State × Result) :=
  .ok (s,
    { word := rwFlag 0 (s.cliAt id).valid ||| rwFlag 1 (s.cliAt id).reclaimable
        ||| rwFlag 2 (s.expired (s.cliAt id) s.side.now) ||| rwField 3 (s.cliAt id).hardwareRevision
        ||| rwField 8 (slotNumber (s.ownedSlot id))
      bytes := none
      cf := none
      time := some (s.cliAt id).lastPacketTime })

/-- `RDCLI` (R175). -/
def execRdcli (id : RobotId) (s : State) : Host.Outcome State Fault Refusal := s.serve (.rdcli id) (rdcliBody id s)

/-- The body of `RDSLOT` (R176): `owner` 7:0, `cmd_valid` 8, claim `state` 10:9, claim `id` 23:16. -/
def rdslotBody (slot : BitVec 3) (s : State) : Except Status (State × Result) :=
  match slotOf slot with
  | none => .error .badOperand
  | some k =>
    .ok (s, Result.ofWord (rwField 0 (s.slotAt k).owner ||| rwFlag 8 (s.slotAt k).cmdValid
      ||| rwField 9 (s.claimAt k).state.code ||| rwField 16 (s.claimAt k).id))

/-- `RDSLOT` (R176). -/
def execRdslot (slot : BitVec 3) (s : State) : Host.Outcome State Fault Refusal :=
  s.serve (.rdslot slot) (rdslotBody slot s)

end Sys2Proof.Machine
end

