-- ==== Sys2Proof/Machine/Dispatch.lean ====
section
/-! DEFINITION. One arm per operation of spec/opcode_table.json, each calling its meaning. -/

namespace Sys2Proof.Machine

open Sys2Proof

def exec (i : Instr) (s : State) : Host.Outcome State Fault Refusal :=
  match i with
  | .nop => Sys2Proof.Machine.execNop s
  | .enc address port typ => Sys2Proof.Machine.execEnc address port typ s
  | .dec => Sys2Proof.Machine.execDec s
  | .enccf => Sys2Proof.Machine.execEnccf s
  | .deccf => Sys2Proof.Machine.execDeccf s
  | .encrp senderId hardwareRevision => Sys2Proof.Machine.execEncrp senderId hardwareRevision s
  | .decrp => Sys2Proof.Machine.execDecrp s
  | .start => Sys2Proof.Machine.execStart s
  | .stop => Sys2Proof.Machine.execStop s
  | .csrr csr => Sys2Proof.Machine.execCsrr csr s
  | .csrw csr data => Sys2Proof.Machine.execCsrw csr data s
  | .rxc => Sys2Proof.Machine.execRxc s
  | .ctick => Sys2Proof.Machine.execCtick s
  | .rxr rxSlot => Sys2Proof.Machine.execRxr rxSlot s
  | .sweep => Sys2Proof.Machine.execSweep s
  | .setcmd => Sys2Proof.Machine.execSetcmd s
  | .build => Sys2Proof.Machine.execBuild s
  | .rdcli id => Sys2Proof.Machine.execRdcli id s
  | .rdslot slot => Sys2Proof.Machine.execRdslot slot s

end Sys2Proof.Machine
end

