-- ==== Sys2Proof/Machine/Step.lean ====
section
/-! DEFINITION. One step: what the core makes of the next rising edge of `clk` the host drives (spec/10_state.md R47
to R49, spec/20_memory.md R68). An operation is accepted, run to completion and answered within its step (DESIGN CHOICE,
safe, log entry 4). -/

namespace Sys2Proof.Machine

open Sys2Proof

/-- Runs the accepted command word `cw` (R91, R140): a word that selects no operation completes with `ILLEGAL_OP`. -/
def runCommand (cw : Word) (s : State) : Host.Outcome State Fault Refusal :=
  match decode cw with
  | .ok i => exec i s
  | .error _ => .next (s.raise .illegalOp)

/-- The edge `e` (R47 to R49): `rst` wins over everything; while a response is outstanding `cmd_ready_o` is 0 and the
core only waits for the host to take it (DEDUCED, log entry 13); otherwise an offered command is accepted and run. -/
def stepEdge (e : Edge) (s : State) : Host.Outcome State Fault Refusal :=
  if e.rst then .next s.resetEdge
  else if s.rspValid then .next (if e.rspReady then s.takeResponse else s)
  else if e.cmdValid then runCommand e.cmdWord (s.accept e)
  else .next s

/-- One step: the next edge the host drives; with none to come, nothing changes (R203, R216; DEDUCED, safe, log
entry 6). -/
def step (s : State) : Host.Outcome State Fault Refusal :=
  match s.inputs with
  | [] => .next s
  | e :: rest => stepEdge e { s with inputs := rest }

/-- `s` with the command word `w` offered at the next edge and no response outstanding, so that the next step accepts
and runs it. Bits of `w` at or above `nbits` are 0, and so is every side operand. It stands for the host issuing a command
(log entry 2). -/
def State.withFetchWord (s : State) (nbits w : Nat) : State :=
  { s with rsp := none, inputs := Edge.command (BitVec.ofNat 32 (w % 2 ^ nbits)) SideOperands.zero :: s.inputs }

end Sys2Proof.Machine
end

