-- ==== Sys2Proof/Safety.lean ====
section
/-! DEFINITION. What a sound state is: the invariants that the spec says reset establishes and every operation keeps
(spec/10_state.md R23, R25, R42, R45; spec/44_client.md R160(d); spec/60_exceptions.md R202), with two more of the
model's own (log entry 14); and words of the spec that the statements use. -/

namespace Sys2Proof.Machine

open Sys2Proof

/-- The client's lifecycle flags agree (R23, R25, R160(d)); `pendingStarted` is the model's own addition (log entry 14). -/
structure ClientInv (s : State) : Prop where
  /-- `conn = 1` implies `started = 1` (R23) -/
  connStarted : s.conn = true → s.started = true
  /-- `cur_cmd_valid = 1` implies `conn = 1` (R160(d)) -/
  cmdConn : s.curCmdValid = true → s.conn = true
  /-- a pending reply belongs to a started client; no rule lists it as an invariant (DEDUCED from R145 and R142, safe, log
  entry 14) -/
  pendingStarted : s.replyPending = true → s.started = true
  /-- `reply_slot` is 0 to 5 (R25) -/
  replySlotRange : s.replySlot.toNat < 6

/-- The invariants of the server tables, R45 (a) to (f), and of the status registers (R42); `claimIdIdle` is the model's
own addition (log entry 14). -/
structure ServerInv (s : State) : Prop where
  /-- R42: `reclaimable = 1` implies `valid = 1` -/
  reclaimableValid : ∀ id : RobotId, (s.cliAt id).reclaimable = true → (s.cliAt id).valid = true
  /-- R45(a): no nonzero id is the owner of two slots -/
  ownersDistinct : ∀ j k : Fin 6, (s.slotAt j).owner ≠ 0 → (s.slotAt j).owner = (s.slotAt k).owner → j = k
  /-- R45(b): a claim is noted only on an open slot -/
  claimsOpen : ∀ k : Fin 6, (s.claimAt k).state ≠ .none → (s.slotAt k).owner = 0
  /-- R45(c): a single claimant is a known robot -/
  claimantKnown : ∀ k : Fin 6, (s.claimAt k).state = .one →
    (s.claimAt k).id ≠ 0 ∧ (s.cliAt (s.claimAt k).id).valid = true
  /-- R45(d): an owner is a known robot -/
  ownerKnown : ∀ k : Fin 6, (s.slotAt k).owner ≠ 0 → (s.cliAt (s.slotAt k).owner).valid = true
  /-- R45(e): a pending command has an owner -/
  commandOwned : ∀ k : Fin 6, (s.slotAt k).cmdValid = true → (s.slotAt k).owner ≠ 0
  /-- R45(f): a stopped server holds no assignment, no command and no claim -/
  stoppedEmpty : s.started = false → ∀ k : Fin 6,
    (s.slotAt k).owner = 0 ∧ (s.slotAt k).cmdValid = false ∧ (s.claimAt k).state = .none
  /-- a claim that is not a single claimant's has id 0; no rule lists it as an invariant (DEDUCED from R52, R145, R167 and
  R173, safe, log entry 14) -/
  claimIdIdle : ∀ k : Fin 6, (s.claimAt k).state ≠ .one → (s.claimAt k).id = 0

/-- State that belongs to the other role keeps its reset value (R42, R202). -/
structure RoleInv (s : State) : Prop where
  /-- in the SERVER role the client's registers -/
  serverClientState : s.cfg.role = .server → s.conn = false ∧ s.curCmd = ControlMessage.zero ∧ s.curCmdValid = false ∧
    s.replyPending = false ∧ s.replySlot = 0 ∧ s.replyArmedTime = 0 ∧ s.lastFrameTime = 0
  /-- in the CLIENT role the server's tables -/
  clientServerState : s.cfg.role = .client → s.cli = Vector.replicate 255 CliRecord.empty ∧
    s.slot = Vector.replicate 6 SlotEntry.vacant ∧ s.claim = Vector.replicate 6 Claim.cleared

/-- A sound state: true after reset and kept by every step. -/
structure Inv (s : State) : Prop where
  client : ClientInv s
  server : ServerInv s
  role : RoleInv s

/-! ### Words of the spec that the statements use -/

/-- The payload that `Decode` takes from the wire bytes `B` (R82, R112): the bytes after the third, as many as the
length byte allows and the buffer has. -/
def payloadOf (B : List Byte) : List Byte := (B.drop 3).take (min ((B.getD 0 0).toNat - 2) (B.length - 3))

/-- The outer frame is too short (R112): fewer than 3 bytes, or a length byte that denies the header. -/
def outerTooShort (B : List Byte) : Prop := B.length < 3 ∨ (B.getD 0 0).toNat < 2

/-- The packed control frame `P` names a nonzero id in two slots (R83, R84, R122). -/
def repeatsRecipient (P : List Byte) : Prop :=
  ∃ j k : Fin 6, j < k ∧ getBits P (4 + 75 * j.val) 8 = getBits P (4 + 75 * k.val) 8 ∧ getBits P (4 + 75 * k.val) 8 ≠ 0

/-- `F` is the frame whose fields stand in the packed control frame `P` (R83, R84, R121). -/
def standsIn (F : ControlFrame) (P : List Byte) : Prop :=
  F.frameType = getBits P 0 4 ∧ ∀ k : Fin 6,
    (F.msg k).recipientId = getBits P (4 + 75 * k.val + 0) 8 ∧
    (F.msg k).velocityX = getBits P (4 + 75 * k.val + 8) 16 ∧
    (F.msg k).velocityY = getBits P (4 + 75 * k.val + 24) 16 ∧
    (F.msg k).velocityW = getBits P (4 + 75 * k.val + 40) 16 ∧
    (F.msg k).kickPower = getBits P (4 + 75 * k.val + 56) 16 ∧
    (F.msg k).chipOrKick = getBits P (4 + 75 * k.val + 72) 1 ∧
    (F.msg k).kickTriggerMode = getBits P (4 + 75 * k.val + 73) 2

/-- The instance has the role `r` and is started: what `RXC`, `CTICK`, `RXR`, `SWEEP`, `SETCMD` and `BUILD` need of the
state (R141, R142). -/
def State.serving (s : State) (r : Role) : Prop := s.cfg.role = r ∧ s.started = true

/-- At the time `now`, the last reply of the record `c` is older than `CLIENT_TIMEOUT` (R38, R169). -/
def State.tooOld (s : State) (now : Time) (c : CliRecord) : Prop :=
  s.clientTimeout.toNat < (now - c.lastPacketTime).toNat

/-- A robot that a sweep at `now` finds or leaves live (R15, R169). -/
def State.liveAt (s : State) (now : Time) (id : RobotId) : Prop :=
  (s.cliAt id).valid = true ∧ (s.cliAt id).reclaimable = false ∧ ¬ s.tooOld now (s.cliAt id)

/-- The edge `e` is the next one, it offers a command, and nothing keeps the core from accepting it (R47, R48). -/
def State.offered (s : State) (e : Edge) (rest : List Edge) : Prop :=
  s.inputs = e :: rest ∧ e.rst = false ∧ e.cmdValid = true ∧ s.rsp = none

/-- Two sets of side operands agree on every operand that `i` names (R88), and on no byte past the length (R66). -/
def agreeOnNamed (i : Instr) (a b : SideOperands) : Prop :=
  let sameBytes := a.len = b.len ∧ ∀ j : Fin 120, j.val < a.len.toNat → a.buf[j] = b.buf[j]
  match i with
  | .nop | .encrp _ _ | .start | .stop | .csrr _ | .csrw _ _ | .rdslot _ => True
  | .enc _ _ _ | .dec | .deccf | .decrp => sameBytes
  | .enccf => a.cf = b.cf
  | .rxc => sameBytes ∧ a.now = b.now ∧ a.rnd = b.rnd
  | .rxr _ => sameBytes ∧ a.now = b.now
  | .ctick | .sweep | .build | .rdcli _ => a.now = b.now
  | .setcmd => a.cf.msg 0 = b.cf.msg 0

/-- The statuses other than `OK` that the table of R193 gives an operation. -/
def possibleStatuses (i : Instr) : List Status :=
  match i with
  | .nop | .enccf | .encrp _ _ | .start | .stop => []
  | .enc _ _ _ => [.frameTooLarge]
  | .dec | .decrp => [.badOperand, .frameTooShort]
  | .deccf => [.badOperand, .frameTooShort, .duplicateRecipient]
  | .csrr _ | .csrw _ _ => [.badOperand]
  | .rxc => [.wrongRole, .notStarted, .badOperand, .frameTooShort, .ignored, .duplicateRecipient]
  | .ctick | .sweep | .build => [.wrongRole, .notStarted]
  | .rxr _ => [.wrongRole, .notStarted, .badOperand, .frameTooShort, .ignored, .badSender]
  | .setcmd => [.wrongRole, .notStarted, .badOperand, .notAssigned]
  | .rdcli _ | .rdslot _ => [.wrongRole, .badOperand]

end Sys2Proof.Machine
end

