-- ==== Sys2Proof/Certificates/Slice0/Obligations.lean ====
section
/-! DEFINITION. The statements for the provers. Each docstring names the rule of spec/ that the statement formalises, or
says that it is derived or the model's own choice. -/

section

open Sys2Proof Sys2Proof.Machine

/-! ### The command word -/

/-- R87, R88, R90, R95: one command word of each operation, written out from its fields, selects that operation. -/
def Obligations.WordsOfTheOperationMapDecode : Prop :=
  decode 0x00000000 = .ok .nop ∧
  decode 0x080100A5 = .ok (.enc 0x01 0xA 0x5) ∧
  decode 0x10000000 = .ok .dec ∧
  decode 0x18000000 = .ok .enccf ∧
  decode 0x20000000 = .ok .deccf ∧
  decode 0x2803000B = .ok (.encrp 0x03 0xB) ∧
  decode 0x30000000 = .ok .decrp ∧
  decode 0x40000000 = .ok .start ∧
  decode 0x48000000 = .ok .stop ∧
  decode 0x50060000 = .ok (.csrr 0x06) ∧
  decode 0x58040003 = .ok (.csrw 0x04 0x0003) ∧
  decode 0x80000000 = .ok .rxc ∧
  decode 0x88000000 = .ok .ctick ∧
  decode 0xC5000000 = .ok (.rxr 5) ∧
  decode 0xC8000000 = .ok .sweep ∧
  decode 0xD0000000 = .ok .setcmd ∧
  decode 0xD8000000 = .ok .build ∧
  decode 0xE0030000 = .ok (.rdcli 0x03) ∧
  decode 0xE9000000 = .ok (.rdslot 1)

/-- R87, R88, R90: the decoder gives back every operation from its encoding, with every operand at every value. -/
def Obligations.DecodeOfEncodeIsTheOperation : Prop := ∀ i : Instr, decode (encode i) = .ok i

/-- R87, R88: a word that selects an operation differs from the operation's encoding only in bits that the operation
does not name. -/
def Obligations.EncodeOfDecodeIsTheNamedBits : Prop :=
  ∀ (cw : Word) (i : Instr), decode cw = .ok i → encode i = cw &&& namedBits i

/-- R91: exactly the listed `op` codes select no operation; a command with one of them is accepted, changes no state and
completes with `ILLEGAL_OP`; and bits that the selected operation does not use are ignored. The new response and the
sampled operands are the channels', not the core's state (R48, R49; the fields that hold them and the edges are the
model's, log entries 2 and 10). -/
def Obligations.ReservedOpCodesCompleteIllegalOp : Prop :=
  (∀ cw : Word, (∃ op, decode cw = .error (.reservedOp op)) ↔
    cw.toNat / 2 ^ 27 ∈
      [0x07, 0x0C, 0x0D, 0x0E, 0x0F, 0x12, 0x13, 0x14, 0x15, 0x16, 0x17, 0x1E, 0x1F]) ∧
  (∀ (s : State) (e : Edge) (rest : List Edge), s.offered e rest →
    e.cmdWord.toNat / 2 ^ 27 ∈
      [0x07, 0x0C, 0x0D, 0x0E, 0x0F, 0x12, 0x13, 0x14, 0x15, 0x16, 0x17, 0x1E, 0x1F] →
    step s = .next { s with inputs := rest, side := e.side, rsp := some (.raised .illegalOp) }) ∧
  (∀ (cw cw' : Word) (i : Instr), decode cw = .ok i → cw &&& namedBits i = cw' &&& namedBits i → decode cw' = .ok i)

/-! ### Steps, reset, the channels -/

/-- R47, R48, R68: where the next edge offers a command and the core is ready, the step is the decoded operation, run in
the state with the side operands of that edge sampled and the edge gone (the list of edges and the field of the
sampled operands are the model's choice, log entries 2 and 10). -/
def Obligations.StepRunsTheDecodedOperation : Prop :=
  ∀ (s : State) (e : Edge) (rest : List Edge) (i : Instr), s.offered e rest → decode e.cmdWord = .ok i →
    step s = exec i { s with inputs := rest, side := e.side }

/-- R52: an edge with `rst = 1` leaves every piece of state at the value of the table, under the straps it had, and so is
the state after reset that the model starts from. -/
def Obligations.ResetLeavesTheTableOfR52 : Prop :=
  let after (t : State) (cfg : Config) : Prop :=
    t.cfg = cfg ∧ t.started = false ∧ t.conn = false ∧ t.curCmd = ControlMessage.zero ∧ t.curCmdValid = false ∧
    t.replyPending = false ∧ t.replySlot = 0 ∧ t.replyArmedTime = 0 ∧ t.lastFrameTime = 0 ∧ t.events = 0 ∧
    t.irqEn = 0 ∧ t.ownId = 0 ∧ t.hwRev = 0 ∧ t.clientTimeout = 200 ∧ t.slotDuration = cfg.slotDurationReset ∧
    t.silenceWindow = 0 ∧ t.claimEn = true ∧
    (∀ id : RobotId, t.cliAt id =
      { valid := false, reclaimable := false, lastPacketTime := 0, hardwareRevision := 0 }) ∧
    (∀ k : Fin 6, t.slotAt k = { owner := 0, cmdValid := false, cmd := MotionCommand.zero }) ∧
    (∀ k : Fin 6, t.claimAt k = { state := .none, id := 0 })
  (∀ (s : State) (e : Edge) (rest : List Edge), s.inputs = e :: rest → e.rst = true →
    ∃ t, step s = .next t ∧ after t s.cfg) ∧
  after State.reset Config.strap

/-- R215: reset wins over everything at its edge and gives no response; the side-band outputs take the values their state
gives; what is left is a function of the configuration alone. Two fields are not the spec's state and are left out of that:
the list of the edges to come, which is the model's choice (log entry 2) and only loses this edge, and the operands
sampled last, of which nothing is said (log entry 10). -/
def Obligations.ResetIsAFunctionOfTheConfiguration : Prop :=
  ∀ (s : State) (e : Edge) (rest : List Edge), s.inputs = e :: rest → e.rst = true →
    ∃ t, step s = .next t ∧ t = { State.resetWith s.cfg with inputs := rest, side := t.side } ∧ t.rspValid = false ∧
      t.cmdReady = true ∧ t.portOpen = false ∧ t.connOut = false ∧ t.curCmdValidOut = false ∧ t.irq = false ∧
      ∀ now : Time, t.replyDue now = false

/-- R48, R49: while a response is outstanding no command is accepted, and the host takes the response at an edge with
`rsp_ready_i = 1`. Two clauses are the model's reading and no rule's words: that the very edge which takes the response
accepts no command (log entry 13, DEDUCED from R48), and that an edge which offers nothing to an idle core changes nothing
(log entry 6, DEDUCED from R203 and R216). -/
def Obligations.OutstandingResponseHoldsCommandsBack : Prop :=
  ∀ (s : State) (e : Edge) (rest : List Edge), s.inputs = e :: rest → e.rst = false →
    (s.rsp ≠ none → step s = .next { s with inputs := rest, rsp := if e.rspReady then none else s.rsp }) ∧
    (s.rsp = none → e.cmdValid = false → step s = .next { s with inputs := rest })

/-- R195: nothing stops the core from accepting commands. Every operation and every step answer a next state, and an
operation leaves exactly one response. -/
def Obligations.NothingStopsTheCore : Prop :=
  (∀ (i : Instr) (s : State), ∃ (t : State) (r : Response), exec i s = .next t ∧ t.rsp = some r) ∧
  (∀ s : State, ∃ t, step s = .next t)

/-! ### Statuses -/

/-- R192: an operation that ends with a status other than `OK` writes no state at all, its response carries the status
and nothing to send, and once the response is taken the core stands as it would have without the operation. -/
def Obligations.RaisedStatusWritesNothing : Prop :=
  ∀ (i : Instr) (s t : State) (e : Status), exec i s = .next t → t.rsp = some (.raised e) →
    t = { s with rsp := some (.raised e) } ∧ (Response.raised e).owedSend = none ∧ t.takeResponse = s.takeResponse

/-- R141: a role-specific operation accepted by a core of the other role raises `WRONG_ROLE` and changes nothing, and no
other operation ever does. -/
def Obligations.OtherRoleRaisesWrongRole : Prop :=
  (∀ s : State, s.cfg.role = .server → ∀ i : Instr, i = .rxc ∨ i = .ctick → exec i s = .next (s.raise .wrongRole)) ∧
  (∀ (s : State) (rx k : BitVec 3) (id : RobotId), s.cfg.role = .client →
    ∀ i ∈ [Instr.rxr rx, .sweep, .setcmd, .build, .rdcli id, .rdslot k], exec i s = .next (s.raise .wrongRole)) ∧
  (∀ (i : Instr) (s t : State), exec i s = .next t → t.rsp = some (.raised .wrongRole) →
    (s.cfg.role = .server ∧ (i = .rxc ∨ i = .ctick)) ∨
    (s.cfg.role = .client ∧ ∃ rx k id, i ∈ [Instr.rxr rx, .sweep, .setcmd, .build, .rdcli id, .rdslot k]))

/-- R142: the six operations that need `started = 1` raise `NOT_STARTED` on a stopped core of their role and change
nothing; no other operation ever does. -/
def Obligations.StoppedCoreRaisesNotStarted : Prop :=
  (∀ s : State, s.cfg.role = .client → s.started = false →
    ∀ i ∈ [Instr.rxc, .ctick], exec i s = .next (s.raise .notStarted)) ∧
  (∀ (s : State) (rx : BitVec 3), s.cfg.role = .server → s.started = false →
    ∀ i ∈ [Instr.rxr rx, .sweep, .setcmd, .build], exec i s = .next (s.raise .notStarted)) ∧
  (∀ (i : Instr) (s t : State), exec i s = .next t → t.rsp = some (.raised .notStarted) →
    s.started = false ∧ ∃ rx, i ∈ [Instr.rxc, .ctick, .rxr rx, .sweep, .setcmd, .build]) ∧
  (∀ s : State, s.portOpen = s.started)

/-- R92: an operand value out of range raises `BAD_OPERAND`, but for a reply slot 6 or 7, which means that the slot is
unknown and registers no claim. -/
def Obligations.OperandsOutOfRange : Prop :=
  (∀ (s : State) (k : BitVec 3), s.cfg.role = .server → 6 ≤ k.toNat →
    exec (.rdslot k) s = .next (s.raise .badOperand)) ∧
  (∀ (s : State) (k : BitVec 3), s.serving .server → 6 ≤ k.toNat → ∃ t, exec (.rxr k) s = .next t ∧ t.claim = s.claim) ∧
  (∀ s : State, s.cfg.role = .server → exec (.rdcli 0) s = .next (s.raise .badOperand)) ∧
  (∀ (s : State) (a : BitVec 8), 0x0A ≤ a.toNat → exec (.csrr a) s = .next (s.raise .badOperand)) ∧
  (∀ (s : State) (a : BitVec 8) (v : Half), 0x0A ≤ a.toNat → exec (.csrw a v) s = .next (s.raise .badOperand)) ∧
  (∀ s : State, s.serving .server → (s.side.cf.msg 0).recipientId = 0 →
    exec .setcmd s = .next (s.raise .badOperand))

/-- R88: `len` may be 0 to 127 while the buffer has 120 entries. The operations that decode it raise `BAD_OPERAND` above
120, whatever the bytes are. -/
def Obligations.LengthAboveTheBufferIsBadOperand : Prop :=
  ∀ s : State, 120 < s.side.len.toNat →
    (∀ i ∈ [Instr.dec, .deccf, .decrp], exec i s = .next (s.raise .badOperand)) ∧
    (s.serving .client → exec .rxc s = .next (s.raise .badOperand)) ∧
    (s.serving .server → ∀ rx, exec (.rxr rx) s = .next (s.raise .badOperand))

/-- R193, first column: the statuses each operation can end with. -/
def Obligations.StatusesOfEachOperation : Prop :=
  ∀ (i : Instr) (s t : State) (e : Status), exec i s = .next t → t.rsp = some (.raised e) → e ∈ possibleStatuses i

/-- R190: the status codes. Every response has one of them, so that 4 to 7 and 15 to 31 are never output. -/
def Obligations.StatusCodesOfEveryResponse : Prop :=
  (∀ r : Result, (Response.ok r).statusCode = 0) ∧
  (Response.raised .frameTooLarge).statusCode = 1 ∧ (Response.raised .frameTooShort).statusCode = 2 ∧
  (Response.raised .duplicateRecipient).statusCode = 3 ∧ (Response.raised .ignored).statusCode = 8 ∧
  (Response.raised .badSender).statusCode = 9 ∧ (Response.raised .notStarted).statusCode = 10 ∧
  (Response.raised .wrongRole).statusCode = 11 ∧ (Response.raised .illegalOp).statusCode = 12 ∧
  (Response.raised .badOperand).statusCode = 13 ∧ (Response.raised .notAssigned).statusCode = 14 ∧
  ∀ r : Response, r.statusCode.toNat ∈ [0, 1, 2, 3, 8, 9, 10, 11, 12, 13, 14]

/-! ### Frames -/

/-- R193, second column, for the operations that serve both roles and for the client's: each changes nothing but its
response and the state its row lists. -/
def Obligations.SharedAndClientOperationsWriteOnlyTheirRow : Prop :=
  ∀ (i : Instr) (s t : State), exec i s = .next t →
    match i with
    | .nop | .enc _ _ _ | .dec | .enccf | .deccf | .encrp _ _ | .decrp | .csrr _ => t = { s with rsp := t.rsp }
    | .start => t = { s with rsp := t.rsp, started := t.started }
    | .stop =>
      t = { s with rsp := t.rsp, started := t.started, conn := t.conn, curCmdValid := t.curCmdValid,
                   replyPending := t.replyPending, slot := t.slot, claim := t.claim, events := t.events } ∧
      (∀ k : Fin 6, (t.slotAt k).cmd = (s.slotAt k).cmd) ∧ t.events ||| 0x42 = s.events ||| 0x42
    | .csrw a _ =>
      match a.toNat with
      | 0x02 => t = { s with rsp := t.rsp, events := t.events }
      | 0x03 => t = { s with rsp := t.rsp, irqEn := t.irqEn }
      | 0x04 => t = { s with rsp := t.rsp, ownId := t.ownId }
      | 0x05 => t = { s with rsp := t.rsp, hwRev := t.hwRev }
      | 0x06 => t = { s with rsp := t.rsp, clientTimeout := t.clientTimeout }
      | 0x07 => t = { s with rsp := t.rsp, slotDuration := t.slotDuration }
      | 0x08 => t = { s with rsp := t.rsp, silenceWindow := t.silenceWindow }
      | 0x09 => t = { s with rsp := t.rsp, claimEn := t.claimEn }
      | _ => t = { s with rsp := t.rsp }
    | .rxc =>
      t = { s with rsp := t.rsp, lastFrameTime := t.lastFrameTime, curCmd := t.curCmd, curCmdValid := t.curCmdValid,
                   conn := t.conn, replyPending := t.replyPending, replySlot := t.replySlot,
                   replyArmedTime := t.replyArmedTime, events := t.events } ∧
      t.events ||| 0x03 = s.events ||| 0x03
    | .ctick =>
      t = { s with rsp := t.rsp, replyPending := t.replyPending, conn := t.conn, curCmdValid := t.curCmdValid,
                   events := t.events } ∧
      t.events ||| 0x02 = s.events ||| 0x02
    | .rxr _ | .sweep | .setcmd | .build | .rdcli _ | .rdslot _ => True

/-- R193, second column, for the server's operations: each changes nothing but its response and the state its row lists.
Of a record, `SWEEP` and `BUILD` write `reclaimable` alone; `RXR` writes the record of the sender that stands in the
fourth byte of its buffer, and the claim of its reply slot; of a slot, `SETCMD` leaves the owner and `BUILD` the command. -/
def Obligations.ServerOperationsWriteOnlyTheirRow : Prop :=
  ∀ (i : Instr) (s t : State), exec i s = .next t →
    match i with
    | .rdcli _ | .rdslot _ => t = { s with rsp := t.rsp }
    | .rxr rx =>
      t = { s with rsp := t.rsp, cli := t.cli, claim := t.claim, events := t.events } ∧
      (∀ id : RobotId, id ≠ s.side.buf[3] → t.cliAt id = s.cliAt id) ∧
      (∀ k : Fin 6, k.val ≠ rx.toNat → t.claimAt k = s.claimAt k) ∧ t.events ||| 0x04 = s.events ||| 0x04
    | .sweep =>
      t = { s with rsp := t.rsp, cli := t.cli, events := t.events } ∧
      (∀ id : RobotId, t.cliAt id = { s.cliAt id with reclaimable := (t.cliAt id).reclaimable }) ∧
      t.events ||| 0x08 = s.events ||| 0x08
    | .setcmd =>
      t = { s with rsp := t.rsp, slot := t.slot } ∧
      (∀ k : Fin 6, (t.slotAt k).owner = (s.slotAt k).owner) ∧
      (∀ k : Fin 6, (s.slotAt k).owner ≠ (s.side.cf.msg 0).recipientId → t.slotAt k = s.slotAt k)
    | .build =>
      t = { s with rsp := t.rsp, cli := t.cli, slot := t.slot, claim := t.claim, events := t.events } ∧
      (∀ id : RobotId, t.cliAt id = { s.cliAt id with reclaimable := (t.cliAt id).reclaimable }) ∧
      (∀ k : Fin 6, (t.slotAt k).cmd = (s.slotAt k).cmd) ∧ t.events ||| 0x78 = s.events ||| 0x78
    | .nop | .enc _ _ _ | .dec | .enccf | .deccf | .encrp _ _ | .decrp => True
    | .start | .stop | .csrr _ | .csrw _ _ | .rxc | .ctick => True

/-- R34: what sets each bit of `EVENTS`, over every operation but the write of `EVENTS` itself, which clears the bits
written as 1. The server's invariants (R45) are the premise; a raised status sets no bit, since nothing of the right
sides can then hold. -/
def Obligations.EventBitsSayWhatHappened : Prop :=
  (∀ (i : Instr) (s t : State), ServerInv s → exec i s = .next t → (∀ v, i ≠ .csrw 0x02 v) →
    (t.events.getLsbD 0 = true ↔ s.events.getLsbD 0 = true ∨ (s.conn = false ∧ t.conn = true)) ∧
    (t.events.getLsbD 1 = true ↔ s.events.getLsbD 1 = true ∨ (s.conn = true ∧ t.conn = false)) ∧
    (t.events.getLsbD 2 = true ↔ s.events.getLsbD 2 = true ∨
      ∃ id : RobotId, (s.cliAt id).valid = false ∧ (t.cliAt id).valid = true) ∧
    (t.events.getLsbD 3 = true ↔ s.events.getLsbD 3 = true ∨
      ∃ id : RobotId, (s.cliAt id).reclaimable = false ∧ (t.cliAt id).reclaimable = true) ∧
    (t.events.getLsbD 4 = true ↔ s.events.getLsbD 4 = true ∨
      (i = .build ∧ s.serving .server ∧ ∃ k : Fin 6, (s.claimAt k).state = .collided)) ∧
    (t.events.getLsbD 5 = true ↔ s.events.getLsbD 5 = true ∨
      (i = .build ∧ ∃ k : Fin 6, (s.slotAt k).owner = 0 ∧ (t.slotAt k).owner ≠ 0)) ∧
    (t.events.getLsbD 6 = true ↔ s.events.getLsbD 6 = true ∨
      ∃ k : Fin 6, (s.slotAt k).owner ≠ 0 ∧ (t.slotAt k).owner = 0)) ∧
  (∀ (s : State) (v : Half),
    exec (.csrw 0x02 v) s =
      .next ({ s with events := s.events &&& ~~~(v.extractLsb' 0 7) }.respond (Result.ofWord 0)))

/-- R65: the codec operations are pure. Two states with the same configuration and the same operands get the same
response, and neither state changes otherwise. -/
def Obligations.CodecOperationsArePure : Prop :=
  ∀ (s u : State) (address : Byte) (port typ : BitVec 4), s.cfg = u.cfg → s.side = u.side →
    ∀ i ∈ [Instr.nop, .enc address port typ, .dec, .enccf, .deccf, .encrp address port, .decrp],
      ∃ r : Response, exec i s = .next { s with rsp := some r } ∧ exec i u = .next { u with rsp := some r }

/-- R66, R87, R88: an operation does the same whatever the operands that it does not name are, and whatever stands in the
buffer at or past `len`. -/
def Obligations.UnnamedOperandsAreIgnored : Prop :=
  ∀ (i : Instr) (s t : State) (o : SideOperands), agreeOnNamed i s.side o → exec i s = .next t →
    exec i { s with side := o } = .next { t with side := o }

/-- R35, R199: `IRQ_EN` changes no behaviour of any operation but its own read and write, and the interrupt line is the OR
of the enabled events. -/
def Obligations.IrqEnableChangesNoOperation : Prop :=
  (∀ (i : Instr) (s t : State) (v : BitVec 7), i ≠ .csrr 0x03 → (∀ d, i ≠ .csrw 0x03 d) → exec i s = .next t →
    exec i { s with irqEn := v } = .next { t with irqEn := v }) ∧
  (∀ s : State, s.irq = true ↔ ∃ b, s.events.getLsbD b = true ∧ s.irqEn.getLsbD b = true)

/-! ### The codec operations -/

/-- R111: `ENC` gives the length byte, the header and the payload bytes up to 117 of them, and refuses a longer payload
with `FRAME_TOO_LARGE`. -/
def Obligations.EncBuildsTheWireFrame : Prop :=
  ∀ (s : State) (address : Byte) (port typ : BitVec 4),
    (s.side.len.toNat ≤ 117 →
      let W := BitVec.ofNat 8 (s.side.len.toNat + 2) :: address :: (port ++ typ) ::
        s.side.buf.toList.take s.side.len.toNat
      exec (.enc address port typ) s = .next (s.respond (Result.ofBytes 0 W)) ∧
        (Result.ofBytes 0 W).len = some (BitVec.ofNat 7 (s.side.len.toNat + 3))) ∧
    (117 < s.side.len.toNat → exec (.enc address port typ) s = .next (s.raise .frameTooLarge))

/-- R112: `DEC` refuses a length above 120, then a frame shorter than its header, and otherwise gives the header and the
payload that both the length byte and the buffer allow. -/
def Obligations.DecTakesTheFrameApart : Prop :=
  ∀ s : State,
    (120 < s.side.len.toNat → exec .dec s = .next (s.raise .badOperand)) ∧
    (s.side.len.toNat ≤ 120 → s.side.len.toNat < 3 ∨ s.side.buf[0].toNat < 2 →
      exec .dec s = .next (s.raise .frameTooShort)) ∧
    (s.side.len.toNat ≤ 120 → 3 ≤ s.side.len.toNat → 2 ≤ s.side.buf[0].toNat →
      exec .dec s = .next (s.respond (Result.ofBytes
        (0#8 ++ s.side.buf[1] ++ 0#8 ++ (s.side.buf[2].extractLsb' 4 4) ++ (s.side.buf[2].extractLsb' 0 4))
        (((s.side.buf.toList.take s.side.len.toNat).drop 3).take
          (min (s.side.buf[0].toNat - 2) (s.side.len.toNat - 3))))))

/-- R113: the laws of `Encode` and `Decode`. (d) and (e) are the spec's own inferences. -/
def Obligations.EncodeAndDecodeAgree : Prop :=
  (∀ (h : Header) (P : List Byte), P.length ≤ 117 →
    ∃ W, encodeFrame h P = .ok W ∧ W.length ≤ 120 ∧ decodeFrame W = .ok (h, P)) ∧
  (∀ (h : Header) (P : List Byte), 120 < 3 + P.length → encodeFrame h P = .error .frameTooLarge) ∧
  (∀ B : List Byte, outerTooShort B → decodeFrame B = .error .frameTooShort) ∧
  (∀ (B : List Byte) (h : Header) (P : List Byte), B.length ≤ 120 → (B.getD 0 0).toNat + 1 = B.length →
    decodeFrame B = .ok (h, P) → encodeFrame h P = .ok B) ∧
  (∀ B : List Byte, (∃ h P, decodeFrame B = .ok (h, P) ∧ P = payloadOf B) ∨ decodeFrame B = .error .frameTooShort)

/-- R120 (with R83, R84, R85): `ENCCF` gives 57 bytes, every field of the frame at its bit position and the two pad bits
0, whatever the frame is. -/
def Obligations.EnccfPlacesEveryField : Prop :=
  ∀ s : State, ∃ B : List Byte, exec .enccf s = .next (s.respond (Result.ofBytes 0 B)) ∧ B.length = 57 ∧
    standsIn s.side.cf B ∧ streamBit B 454 = false ∧ streamBit B 455 = false

/-- R121, R122: `DECCF` refuses a length above 120, then fewer than 57 bytes, then a nonzero id in two slots, and
otherwise gives the frame whose fields stand at the bit positions. -/
def Obligations.DeccfReadsEveryField : Prop :=
  ∀ s : State,
    let B := s.side.buf.toList.take s.side.len.toNat
    (120 < s.side.len.toNat → exec .deccf s = .next (s.raise .badOperand)) ∧
    (s.side.len.toNat < 57 → exec .deccf s = .next (s.raise .frameTooShort)) ∧
    (57 ≤ s.side.len.toNat → s.side.len.toNat ≤ 120 → repeatsRecipient B →
      exec .deccf s = .next (s.raise .duplicateRecipient)) ∧
    (57 ≤ s.side.len.toNat → s.side.len.toNat ≤ 120 → ¬ repeatsRecipient B →
      ∃ F, exec .deccf s = .next (s.respond { word := 0, bytes := none, cf := some F, time := none }) ∧ standsIn F B)

/-- R123: the laws of `PackCF` and `UnpackCF`. (b) and (c) are the spec's own inferences. -/
def Obligations.ControlFramesSurviveTheWire : Prop :=
  (∀ F : ControlFrame,
    (∀ j k : Fin 6, j < k → (F.msg j).recipientId = (F.msg k).recipientId → (F.msg k).recipientId = 0) →
    unpackCF (packCF F) = .ok F) ∧
  (∀ (B : List Byte) (F : ControlFrame), B.length = 57 → streamBit B 454 = false → streamBit B 455 = false →
    unpackCF B = .ok F → packCF F = B) ∧
  (∀ F : ControlFrame, (packCF F).length = 57)

/-- R130, R131: `ENCRP` gives the sender's byte and the revision in the high nibble of the second; `DECRP` reads them back
from the first two bytes and ignores the rest. -/
def Obligations.ReplyMessagesPackIntoTwoBytes : Prop :=
  (∀ (s : State) (id : RobotId) (hw : BitVec 4),
    exec (.encrp id hw) s = .next (s.respond (Result.ofBytes 0 [id, hw ++ 0#4]))) ∧
  (∀ s : State,
    (120 < s.side.len.toNat → exec .decrp s = .next (s.raise .badOperand)) ∧
    (s.side.len.toNat < 2 → exec .decrp s = .next (s.raise .frameTooShort)) ∧
    (2 ≤ s.side.len.toNat → s.side.len.toNat ≤ 120 →
      exec .decrp s =
        .next (s.respond (Result.ofWord (0#8 ++ s.side.buf[0] ++ 0#12 ++ s.side.buf[1].extractLsb' 4 4)))))

/-- R132: the laws of `PackRP` and `UnpackRP`, which the spec infers from R130 and R131, and the five bytes of a reply wire
frame. -/
def Obligations.ReplyMessagesSurviveTheWire : Prop :=
  (∀ r : ReplyMessage, unpackRP (packRP r) = .ok r) ∧
  (∀ (b0 b1 : Byte) (r : ReplyMessage), b1.extractLsb' 0 4 = 0#4 → unpackRP [b0, b1] = .ok r → packRP r = [b0, b1]) ∧
  (∀ (h : Header) (r : ReplyMessage), encodeFrame h (packRP r) =
    .ok [4, h.address, h.port ++ h.typ, r.senderId, r.hardwareRevision ++ 0#4])

/-- R96: the pseudo-operations are what their expansions give. -/
def Obligations.PseudoOperationsAreTheirExpansions : Prop :=
  (∀ (s u : State) (P : List Byte) (r : Result), exec .enccf s = .next (s.respond r) → r.bytes = some P →
    u.side.bytes = P → ∃ W, encCtl u.cfg s.side.cf = .ok W ∧
      exec (.enc 1 u.cfg.portControl u.cfg.typeControl) u = .next (u.respond (Result.ofBytes 0 W))) ∧
  (∀ (s u : State) (id : RobotId) (hw : BitVec 4) (P : List Byte) (r : Result),
    exec (.encrp id hw) s = .next (s.respond r) → r.bytes = some P → u.side.bytes = P →
    ∃ W, encReply u.cfg { senderId := id, hardwareRevision := hw } = .ok W ∧
      exec (.enc 1 u.cfg.portControl u.cfg.typeControl) u = .next (u.respond (Result.ofBytes 0 W))) ∧
  (∀ (s : State) (id : RobotId),
    exec (Instr.setId id) s = .next ({ s with ownId := id }.respond (Result.ofWord 0))) ∧
  (∀ (s : State) (mask : Half), exec (Instr.evClr mask) s =
    .next ({ s with events := s.events &&& ~~~(mask.extractLsb' 0 7) }.respond (Result.ofWord 0))) ∧
  (∀ s : State, exec Instr.rdEv s = .next (s.respond (Result.ofWord (0#25 ++ s.events))))

/-! ### Lifecycle and registers -/

/-- R143: `NOP` returns and does nothing else, in either role, started or not, and every word with `op = 0` is one. -/
def Obligations.NopDoesNothing : Prop :=
  (∀ s : State, exec .nop s = .next (s.respond (Result.ofWord 0))) ∧
  (∀ cw : Word, cw.toNat / 2 ^ 27 = 0 → decode cw = .ok .nop)

/-- R144: `START` starts the entity and says whether it was stopped; a second call is a no-op. -/
def Obligations.StartIsIdempotent : Prop :=
  ∀ s : State,
    exec .start s = .next ({ s with started := true }.respond (Result.ofWord (if s.started then 0 else 1))) ∧
    (s.started = true → exec .start s = .next (s.respond (Result.ofWord 0))) ∧
    { s with started := true }.portOpen = true

/-- R145: `STOP` stops the entity and says whether it was started. A client disconnects and drops the current command's
validity and the pending reply; a server frees every slot and drops every pending command and claim; each notes the event.
On a sound stopped core there is nothing to clear, so it changes no state (corner case (a)); the premises hold R23 and
R45(f), and of the model's own (log entry 14) that a claim which is no single claimant's has id 0. -/
def Obligations.StopReturnsToStopped : Prop :=
  (∀ s : State, s.cfg.role = .client →
    exec .stop s = .next ({ s with
      started := false, conn := false, curCmdValid := false, replyPending := false
      events := if s.conn then s.events ||| 0x02 else s.events }.respond
        (Result.ofWord (if s.started then 1 else 0)))) ∧
  (∀ s : State, s.cfg.role = .server →
    ∃ sl cl, exec .stop s = .next ({ s with
        started := false, slot := sl, claim := cl
        events := if ∃ k : Fin 6, (s.slotAt k).owner ≠ 0 then s.events ||| 0x40 else s.events }.respond
          (Result.ofWord (if s.started then 1 else 0))) ∧
      ∀ k : Fin 6, sl[k] = { s.slotAt k with owner := 0, cmdValid := false } ∧ cl[k] = { state := .none, id := 0 }) ∧
  (∀ s : State, s.started = false → ClientInv s → ServerInv s →
    exec .stop s = .next (s.respond (Result.ofWord 0)))

/-- R146 (with R31, R33): `CSRR` gives the ten registers, their unnamed bits 0, and refuses every other address. -/
def Obligations.CsrrGivesTheRegister : Prop :=
  ∀ s : State,
    exec (.csrr 0x00) s = .next (s.respond (Result.ofWord (match s.cfg.role with | .client => 0 | .server => 1))) ∧
    exec (.csrr 0x01) s = .next (s.respond (Result.ofWord
      (0#25 ++ s.replySlot ++ BitVec.ofBool s.replyPending ++ BitVec.ofBool s.curCmdValid ++ BitVec.ofBool s.conn
        ++ BitVec.ofBool s.started))) ∧
    exec (.csrr 0x02) s = .next (s.respond (Result.ofWord (0#25 ++ s.events))) ∧
    exec (.csrr 0x03) s = .next (s.respond (Result.ofWord (0#25 ++ s.irqEn))) ∧
    exec (.csrr 0x04) s = .next (s.respond (Result.ofWord (0#24 ++ s.ownId))) ∧
    exec (.csrr 0x05) s = .next (s.respond (Result.ofWord (0#28 ++ s.hwRev))) ∧
    exec (.csrr 0x06) s = .next (s.respond (Result.ofWord (0#16 ++ s.clientTimeout))) ∧
    exec (.csrr 0x07) s = .next (s.respond (Result.ofWord (0#16 ++ s.slotDuration))) ∧
    exec (.csrr 0x08) s = .next (s.respond (Result.ofWord (0#16 ++ s.silenceWindow))) ∧
    exec (.csrr 0x09) s = .next (s.respond (Result.ofWord (0#31 ++ BitVec.ofBool s.claimEn))) ∧
    ∀ a : BitVec 8, 0x0A ≤ a.toNat → exec (.csrr a) s = .next (s.raise .badOperand)

/-- R147: `CSRW` writes the one register addressed, drops the bits above its field, clears `EVENTS` where 1 is written,
and refuses a read-only or absent address. -/
def Obligations.CsrwWritesTheRegister : Prop :=
  ∀ (s : State) (v : Half),
    exec (.csrw 0x02 v) s =
      .next ({ s with events := s.events &&& ~~~(v.extractLsb' 0 7) }.respond (Result.ofWord 0)) ∧
    exec (.csrw 0x03 v) s = .next ({ s with irqEn := v.extractLsb' 0 7 }.respond (Result.ofWord 0)) ∧
    exec (.csrw 0x04 v) s = .next ({ s with ownId := v.extractLsb' 0 8 }.respond (Result.ofWord 0)) ∧
    exec (.csrw 0x05 v) s = .next ({ s with hwRev := v.extractLsb' 0 4 }.respond (Result.ofWord 0)) ∧
    exec (.csrw 0x06 v) s = .next ({ s with clientTimeout := v }.respond (Result.ofWord 0)) ∧
    exec (.csrw 0x07 v) s = .next ({ s with slotDuration := v }.respond (Result.ofWord 0)) ∧
    exec (.csrw 0x08 v) s = .next ({ s with silenceWindow := v }.respond (Result.ofWord 0)) ∧
    exec (.csrw 0x09 v) s = .next ({ s with claimEn := v.getLsbD 0 }.respond (Result.ofWord 0)) ∧
    ∀ a : BitVec 8, a.toNat < 0x02 ∨ 0x0A ≤ a.toNat → exec (.csrw a v) s = .next (s.raise .badOperand)

/-! ### The client -/

/-- R151: the front end of `RXC`, check by check in the order of the spec. Every drop raises and changes nothing; the
address byte plays no part. -/
def Obligations.RxcDropsWhatItsFrontEndRefuses : Prop :=
  ∀ s : State, s.serving .client → s.side.len.toNat ≤ 120 →
    let B := s.side.buf.toList.take s.side.len.toNat
    let forUs := s.side.buf[2] = s.cfg.portControl ++ s.cfg.typeControl
    (outerTooShort B → exec .rxc s = .next (s.raise .frameTooShort)) ∧
    (¬ outerTooShort B → ¬ forUs → exec .rxc s = .next (s.raise .ignored)) ∧
    (¬ outerTooShort B → forUs → (payloadOf B).length < 57 → exec .rxc s = .next (s.raise .frameTooShort)) ∧
    (¬ outerTooShort B → forUs → 57 ≤ (payloadOf B).length → repeatsRecipient (payloadOf B) →
      exec .rxc s = .next (s.raise .duplicateRecipient)) ∧
    (¬ outerTooShort B → forUs → 57 ≤ (payloadOf B).length → ¬ repeatsRecipient (payloadOf B) →
      getBits (payloadOf B) 0 4 ≠ s.cfg.typeControl → exec .rxc s = .next (s.raise .ignored)) ∧
    (¬ outerTooShort B → forUs → 57 ≤ (payloadOf B).length → ¬ repeatsRecipient (payloadOf B) →
      getBits (payloadOf B) 0 4 = s.cfg.typeControl →
      ∃ F, clientFront s.cfg B = .ok F ∧ standsIn F (payloadOf B))

/-- R153 (with R152, R156): the own id stands in slot `k` of an accepted frame. The client takes the command, connects and
schedules its reply in slot `k`, whatever was pending. -/
def Obligations.RxcOwnIdFound : Prop :=
  ∀ (s : State) (F : ControlFrame) (k : Fin 6), s.serving .client → s.side.len.toNat ≤ 120 →
    clientFront s.cfg s.side.bytes = .ok F → s.ownId ≠ 0 → (F.msg k).recipientId = s.ownId →
    exec .rxc s = .next ({ s with
      lastFrameTime := s.side.now, curCmd := F.msg k, curCmdValid := true, conn := true
      replyPending := true, replySlot := BitVec.ofNat 3 k.val, replyArmedTime := s.side.now
      events := if s.conn then s.events else s.events ||| 0x01 }.respond (Result.ofWord
        (0#20 ++ 1#1 ++ 0#1 ++ BitVec.ofBool (!s.conn) ++ 1#1
          ++ BitVec.ofNat 3 (([0, 1, 2, 3, 4, 5] : List (Fin 6)).countP fun j => (F.msg j).recipientId = 0)
          ++ BitVec.ofNat 3 k.val ++ 0#1 ++ 1#1)))

/-- R154, R155 (with R152, R156): the own id does not stand in an accepted frame. The client disconnects and the pending
reply is cancelled; if it may claim and a slot is open, a reply is scheduled in the open slot number `rnd mod open`. -/
def Obligations.RxcOwnIdNotFound : Prop :=
  ∀ (s : State) (F : ControlFrame), s.serving .client → s.side.len.toNat ≤ 120 →
    clientFront s.cfg s.side.bytes = .ok F → s.ownId = 0 ∨ (∀ k, (F.msg k).recipientId ≠ s.ownId) →
    let openList := ([0, 1, 2, 3, 4, 5] : List (Fin 6)).filter fun j => (F.msg j).recipientId = 0
    let events := if s.conn then s.events ||| 0x02 else s.events
    (∀ j : Fin 6, s.claimEn = true → s.ownId ≠ 0 → openList[s.side.rnd.toNat % openList.length]? = some j →
      exec .rxc s = .next ({ s with
        lastFrameTime := s.side.now, conn := false, curCmdValid := false, events := events
        replyPending := true, replySlot := BitVec.ofNat 3 j.val, replyArmedTime := s.side.now }.respond (Result.ofWord
          (0#20 ++ 1#1 ++ BitVec.ofBool s.conn ++ 0#1 ++ 0#1 ++ BitVec.ofNat 3 openList.length ++ BitVec.ofNat 3 j.val
            ++ 1#1 ++ 0#1)))) ∧
    (s.claimEn = false ∨ s.ownId = 0 ∨ openList = [] →
      exec .rxc s = .next ({ s with
        lastFrameTime := s.side.now, conn := false, curCmdValid := false, events := events
        replyPending := false }.respond (Result.ofWord
          (0#20 ++ 0#1 ++ BitVec.ofBool s.conn ++ 0#1 ++ 0#1 ++ BitVec.ofNat 3 openList.length ++ 0#3 ++ 0#1 ++ 0#1)))) ∧
    (openList ≠ [] → ∃ j, openList[s.side.rnd.toNat % openList.length]? = some j)

/-- R157, R158, R159: the whole of `CTICK`. A reply whose delay has passed is no longer pending, and is sent unless the
client has no id any more; then more than the silence window since the last frame disconnects a connected client. In
every state the side-band output `reply_due_o` (R50, R200) is 1 exactly when that delay has passed. -/
def Obligations.CtickFiresTheReplyAndChecksSilence : Prop :=
  (∀ (s : State) (now : Time), s.replyDue now = true ↔
    s.replyPending = true ∧ s.replySlot.toNat * s.slotDuration.toNat ≤ (now - s.replyArmedTime).toNat) ∧
  ∀ s : State, s.serving .client →
    let due := s.replyPending = true ∧
      s.replySlot.toNat * s.slotDuration.toNat ≤ (s.side.now - s.replyArmedTime).toNat
    let silent := s.silenceWindow ≠ 0 ∧ s.conn = true ∧
      s.silenceWindow.toNat < (s.side.now - s.lastFrameTime).toNat
    let t := { s with
      replyPending := s.replyPending && !decide due, conn := s.conn && !decide silent
      curCmdValid := s.curCmdValid && !decide silent, events := if silent then s.events ||| 0x02 else s.events }
    let flags := BitVec.ofBool (decide silent) ++ BitVec.ofBool (s.replyPending && !decide due)
    (due → s.ownId ≠ 0 →
      exec .ctick s = .next (t.respond (Result.ofBytes (1#1 ++ 0#29 ++ flags)
        [0x04, 0x01, s.cfg.portControl ++ s.cfg.typeControl, s.ownId, s.hwRev ++ 0#4]))) ∧
    (¬ due ∨ s.ownId = 0 → exec .ctick s = .next (t.respond (Result.ofWord (0#1 ++ 0#29 ++ flags))))

/-- R150: the transition table of the client. Where an operation changes `started` or `conn` in a state with the client's
invariants (R23), it is a row of the table, in the row's circumstances and with its event bit: an accepted frame that
names the own id (R151, R152) for the way up, one that does not for the way down, or more than the silence window since
the last frame (R159). -/
def Obligations.ClientChangesStateOnlyByTheTable : Prop :=
  ∀ (i : Instr) (s t : State), s.cfg.role = .client → ClientInv s → exec i s = .next t →
    let accepted (F : ControlFrame) : Prop := s.side.len.toNat ≤ 120 ∧ clientFront s.cfg s.side.bytes = .ok F
    (t.started = s.started ∧ t.conn = s.conn) ∨
    (i = .start ∧ s.started = false ∧ s.conn = false ∧ t.started = true ∧ t.conn = false ∧ t.events = s.events) ∨
    (i = .stop ∧ s.started = true ∧ t.started = false ∧ t.conn = false ∧
      t.events = if s.conn then s.events ||| 0x02 else s.events) ∨
    (i = .rxc ∧ s.started = true ∧ t.started = true ∧ s.conn = false ∧ t.conn = true ∧
      t.events = s.events ||| 0x01 ∧ t.curCmd.recipientId = s.ownId ∧
      ∃ F, accepted F ∧ s.ownId ≠ 0 ∧ ∃ k : Fin 6, (F.msg k).recipientId = s.ownId) ∨
    (i = .rxc ∧ s.started = true ∧ t.started = true ∧ s.conn = true ∧ t.conn = false ∧ t.events = s.events ||| 0x02 ∧
      ∃ F, accepted F ∧ (s.ownId = 0 ∨ ∀ k : Fin 6, (F.msg k).recipientId ≠ s.ownId)) ∨
    (i = .ctick ∧ s.started = true ∧ t.started = true ∧ s.conn = true ∧ t.conn = false ∧ t.events = s.events ||| 0x02 ∧
      s.silenceWindow ≠ 0 ∧ s.silenceWindow.toNat < (s.side.now - s.lastFrameTime).toNat)

/-- R160(b), (e): what `CTICK` gives the host to send names the client's own nonzero id, and no reply is pending after it,
so that one scheduled reply is sent at most once. -/
def Obligations.SentReplyNamesItsRobotOnce : Prop :=
  ∀ (s t : State) (r : Response) (W : List Byte), exec .ctick s = .next t → t.rsp = some r → r.owedSend = some W →
    s.ownId ≠ 0 ∧ W[3]? = some s.ownId ∧ s.replyPending = true ∧ t.replyPending = false

/-! ### The server -/

/-- R166: the front end of `RXR`, check by check in the order of the spec. Every drop raises and changes nothing; the
address byte plays no part. -/
def Obligations.RxrDropsWhatItsFrontEndRefuses : Prop :=
  ∀ (s : State) (rx : BitVec 3), s.serving .server → s.side.len.toNat ≤ 120 →
    let B := s.side.buf.toList.take s.side.len.toNat
    let forUs := s.side.buf[2] = s.cfg.portControl ++ s.cfg.typeControl
    (outerTooShort B → exec (.rxr rx) s = .next (s.raise .frameTooShort)) ∧
    (¬ outerTooShort B → ¬ forUs → exec (.rxr rx) s = .next (s.raise .ignored)) ∧
    (¬ outerTooShort B → forUs → (payloadOf B).length < 2 → exec (.rxr rx) s = .next (s.raise .frameTooShort)) ∧
    (¬ outerTooShort B → forUs → 2 ≤ (payloadOf B).length → s.side.buf[3] = 0 →
      exec (.rxr rx) s = .next (s.raise .badSender)) ∧
    (¬ outerTooShort B → forUs → 2 ≤ (payloadOf B).length → s.side.buf[3] ≠ 0 →
      serverFront s.cfg B = .ok { senderId := s.side.buf[3], hardwareRevision := s.side.buf[4].extractLsb' 4 4 })

/-- R166 with R167: an accepted reply writes the sender's record whole and no other, notes a new robot, registers a claim
only on an open slot `rx` for a sender without a slot, and answers with the sender, its revision, whether it is new, and
what became of the claim. -/
def Obligations.RxrRefreshesTheSender : Prop :=
  ∀ (s : State) (rx : BitVec 3) (r : ReplyMessage), s.serving .server → s.side.len.toNat ≤ 120 →
    serverFront s.cfg s.side.bytes = .ok r →
    let claims (k : Fin 6) : Prop :=
      k.val = rx.toNat ∧ (s.slotAt k).owner = 0 ∧ ∀ j : Fin 6, (s.slotAt j).owner ≠ r.senderId
    ∃ (cli : Vector CliRecord 255) (claim : Vector Claim 6) (c : BitVec 2),
      exec (.rxr rx) s = .next ({ s with
        cli := cli, claim := claim
        events := if (s.cliAt r.senderId).valid then s.events else s.events ||| 0x04 }.respond (Result.ofWord
          (0#8 ++ r.senderId ++ 0#5 ++ c ++ BitVec.ofBool (!(s.cliAt r.senderId).valid) ++ 0#4
            ++ r.hardwareRevision))) ∧
      let t := { s with cli := cli, claim := claim }
      (∀ id : RobotId, t.cliAt id =
        if id = r.senderId then
          { valid := true, lastPacketTime := s.side.now, hardwareRevision := r.hardwareRevision, reclaimable := false }
        else s.cliAt id) ∧
      ((∀ k, ¬ claims k) → c = 0#2) ∧
      ∀ k : Fin 6,
        (¬ claims k → t.claimAt k = s.claimAt k) ∧
        (claims k → (t.claimAt k, c) =
          match (s.claimAt k).state with
          | .none => ({ state := .one, id := r.senderId }, 1#2)
          | .one =>
            if (s.claimAt k).id = r.senderId then (s.claimAt k, 1#2) else ({ state := .collided, id := 0 }, 2#2)
          | .collided => (s.claimAt k, 2#2))

/-- R167: what an accepted reply does to the claim of its slot `rx`, and the `CLAIM` field of its response. -/
def Obligations.RxrNotesAtMostOneClaimant : Prop :=
  ∀ (s t : State) (rx : BitVec 3) (r : ReplyMessage) (w : Word), s.serving .server → s.side.len.toNat ≤ 120 →
    serverFront s.cfg s.side.bytes = .ok r → exec (.rxr rx) s = .next t → t.rsp = some (.ok (Result.ofWord w)) →
    ((∃ j : Fin 6, (s.slotAt j).owner = r.senderId) ∨ 6 ≤ rx.toNat → t.claim = s.claim ∧ w.extractLsb' 9 2 = 0#2) ∧
    (∀ k : Fin 6, k.val = rx.toNat →
      ((s.slotAt k).owner ≠ 0 → t.claim = s.claim ∧ w.extractLsb' 9 2 = 0#2) ∧
      ((∀ j : Fin 6, (s.slotAt j).owner ≠ r.senderId) → (s.slotAt k).owner = 0 →
        ((s.claimAt k).state = .none →
          t.claim = s.claim.set k.val { state := .one, id := r.senderId } ∧ w.extractLsb' 9 2 = 1#2) ∧
        ((s.claimAt k).state = .one → (s.claimAt k).id = r.senderId → t.claim = s.claim ∧ w.extractLsb' 9 2 = 1#2) ∧
        ((s.claimAt k).state = .one → (s.claimAt k).id ≠ r.senderId →
          t.claim = s.claim.set k.val { state := .collided, id := 0 } ∧ w.extractLsb' 9 2 = 2#2) ∧
        ((s.claimAt k).state = .collided → t.claim = s.claim ∧ w.extractLsb' 9 2 = 2#2)))

/-- R168, R169: the whole of `SWEEP`. It flags exactly the valid records whose last reply is older than the timeout,
counts those it newly flags, shows the slots of reclaimable owners, and frees none. -/
def Obligations.SweepFlagsTheSilentRobots : Prop :=
  ∀ s : State, s.serving .server →
    ∃ (cli : Vector CliRecord 255) (n : Nat) (mask : BitVec 6),
      exec .sweep s = .next ({ s with cli := cli, events := if n = 0 then s.events else s.events ||| 0x08 }.respond
        (Result.ofWord (0#15 ++ BitVec.ofNat 9 n ++ 0#2 ++ mask))) ∧
      let t := { s with cli := cli }
      (∀ id : RobotId, t.cliAt id = { s.cliAt id with
        reclaimable := (s.cliAt id).reclaimable ||
          ((s.cliAt id).valid && decide (s.clientTimeout.toNat < (s.side.now - (s.cliAt id).lastPacketTime).toNat)) }) ∧
      n = ((List.range 256).map (BitVec.ofNat 8)).countP
        (fun id => !(s.cliAt id).reclaimable && (t.cliAt id).reclaimable) ∧
      (∀ k : Fin 6, mask.getLsbD k.val =
        ((s.slotAt k).owner != 0 && (t.cliAt (s.slotAt k).owner).reclaimable))

/-- R169, R177(a), (b): the boundary of the timeout, for every time of the last reply and across the wrap of the clock. One
millisecond past the timeout flags the robot; exactly the timeout, and one less, does not. -/
def Obligations.TimeoutIsStrictlyMoreThanTheLimit : Prop :=
  ∀ (s : State) (id : RobotId), s.serving .server → (s.cliAt id).valid = true → (s.cliAt id).reclaimable = false →
    let limit := (s.cliAt id).lastPacketTime + s.clientTimeout.setWidth 32
    (s.side.now = limit + 1 → ∃ t, exec .sweep s = .next t ∧ (t.cliAt id).reclaimable = true) ∧
    (s.side.now = limit → ∃ t, exec .sweep s = .next t ∧ (t.cliAt id).reclaimable = false) ∧
    (s.clientTimeout ≠ 0 → s.side.now = limit - 1 →
      ∃ t, exec .sweep s = .next t ∧ (t.cliAt id).reclaimable = false)

/-- R170: `SETCMD` posts the message's command to the one slot its robot owns; id 0 is refused, and so is a robot without a
slot. -/
def Obligations.SetcmdPostsToTheOwnersSlot : Prop :=
  ∀ s : State, s.serving .server →
    let m := s.side.cf.msg 0
    let posted : SlotEntry :=
      { owner := m.recipientId
        cmdValid := true
        cmd := { velocityX := m.velocityX, velocityY := m.velocityY, velocityW := m.velocityW, kickPower := m.kickPower,
                 chipOrKick := m.chipOrKick, kickTriggerMode := m.kickTriggerMode } }
    (m.recipientId = 0 → exec .setcmd s = .next (s.raise .badOperand)) ∧
    (m.recipientId ≠ 0 → (∀ k : Fin 6, (s.slotAt k).owner ≠ m.recipientId) →
      exec .setcmd s = .next (s.raise .notAssigned)) ∧
    (∀ k : Fin 6, m.recipientId ≠ 0 → (∀ j : Fin 6, (s.slotAt j).owner = m.recipientId ↔ j = k) →
      exec .setcmd s = .next ({ s with slot := s.slot.set k.val posted }.respond
        (Result.ofWord (0#29 ++ BitVec.ofNat 3 k.val))))

/-- R172 (with R171): `BUILD` always answers with a frame to send; it sweeps as `SWEEP` does; it frees exactly the slots of
owners that are reclaimable after the sweep, with the commands pending for them, and a live owner keeps its slot. -/
def Obligations.BuildFreesTheSlotsOfSilentRobots : Prop :=
  ∀ s : State, s.serving .server → ServerInv s →
    ∃ (t : State) (w : Word) (W : List Byte),
      exec .build s = .next (t.respond (Result.ofBytes w W)) ∧ w.getLsbD 31 = true ∧
      (∀ id : RobotId, t.cliAt id = { s.cliAt id with
        reclaimable := (s.cliAt id).reclaimable ||
          ((s.cliAt id).valid && decide (s.clientTimeout.toNat < (s.side.now - (s.cliAt id).lastPacketTime).toNat)) }) ∧
      (t.events.getLsbD 6 = true ↔ s.events.getLsbD 6 = true ∨
        ∃ k : Fin 6, (s.slotAt k).owner ≠ 0 ∧ ¬ s.liveAt s.side.now (s.slotAt k).owner) ∧
      ∀ k : Fin 6,
        ((s.slotAt k).owner = 0 → w.getLsbD k.val = false) ∧
        ((s.slotAt k).owner ≠ 0 → s.liveAt s.side.now (s.slotAt k).owner →
          (t.slotAt k).owner = (s.slotAt k).owner ∧ w.getLsbD k.val = false) ∧
        ((s.slotAt k).owner ≠ 0 → ¬ s.liveAt s.side.now (s.slotAt k).owner →
          (t.slotAt k).owner = 0 ∧ (t.slotAt k).cmdValid = false ∧ w.getLsbD k.val = true)

/-- R173: `BUILD` grants an open slot to its single claimant if that robot is live, holds no slot and claims no lower one;
a collided slot stays open; every claim is cleared; and the two masks of the response say which. -/
def Obligations.BuildGrantsTheUncontestedClaims : Prop :=
  ∀ s : State, s.serving .server → ServerInv s →
    let granted (k : Fin 6) : Prop :=
      (s.claimAt k).state = .one ∧ s.liveAt s.side.now (s.claimAt k).id ∧
        (∀ j : Fin 6, (s.slotAt j).owner ≠ (s.claimAt k).id) ∧
        ∀ j : Fin 6, j < k → ¬ ((s.claimAt j).state = .one ∧ (s.claimAt j).id = (s.claimAt k).id)
    ∃ (t : State) (w : Word) (W : List Byte),
      exec .build s = .next (t.respond (Result.ofBytes w W)) ∧
      (t.events.getLsbD 5 = true ↔ s.events.getLsbD 5 = true ∨ ∃ k, granted k) ∧
      (t.events.getLsbD 4 = true ↔ s.events.getLsbD 4 = true ∨ ∃ k : Fin 6, (s.claimAt k).state = .collided) ∧
      ∀ k : Fin 6,
        t.claimAt k = { state := .none, id := 0 } ∧
        (granted k → (t.slotAt k).owner = (s.claimAt k).id ∧ (t.slotAt k).cmdValid = false) ∧
        (¬ granted k → (s.slotAt k).owner = 0 → (t.slotAt k).owner = 0) ∧
        (w.getLsbD (8 + k.val) = true ↔ granted k) ∧
        (w.getLsbD (16 + k.val) = true ↔ (s.claimAt k).state = .collided)

/-- R171, R174: the bytes `BUILD` gives the host to send are `3B 01 pt` and the packed frame, in which slot `k` names its
owner with the command that was pending for that owner, or with the hold/zero command; an open slot is all zero; and no
command is pending afterwards. -/
def Obligations.BuildSendsTheNextFrame : Prop :=
  ∀ s : State, s.serving .server → ServerInv s →
    ∃ (t : State) (w : Word) (F : ControlFrame),
      exec .build s = .next (t.respond (Result.ofBytes w
        (0x3B :: 0x01 :: (s.cfg.portControl ++ s.cfg.typeControl) :: packCF F))) ∧
      w.getLsbD 31 = true ∧ F.frameType = s.cfg.typeControl ∧
      ∀ k : Fin 6, (t.slotAt k).cmdValid = false ∧
        ((t.slotAt k).owner = 0 → F.msg k = ControlMessage.zero) ∧
        ((t.slotAt k).owner ≠ 0 → (s.slotAt k).cmdValid = true →
          F.msg k = (s.slotAt k).cmd.toRobot (t.slotAt k).owner) ∧
        ((t.slotAt k).owner ≠ 0 → (s.slotAt k).cmdValid = false →
          F.msg k = { ControlMessage.zero with recipientId := (t.slotAt k).owner })

/-- R177(c): what `BUILD` gives the host to send is 60 bytes that decode without error to a frame that names no nonzero id
twice, so that the front end of a client with the same port and type accepts it. -/
def Obligations.EveryBuiltFrameIsAccepted : Prop :=
  ∀ s : State, s.serving .server → ServerInv s →
    ∃ (t : State) (r : Response) (W P : List Byte) (h : Header) (F : ControlFrame),
      exec .build s = .next t ∧ t.rsp = some r ∧ r.owedSend = some W ∧ W.length = 60 ∧
      decodeFrame W = .ok (h, P) ∧ unpackCF P = .ok F ∧
      (∀ j k : Fin 6, j ≠ k → (F.msg j).recipientId = (F.msg k).recipientId → (F.msg k).recipientId = 0) ∧
      ∀ cfg : Config, cfg.portControl = s.cfg.portControl → cfg.typeControl = s.cfg.typeControl →
        clientFront cfg W = .ok F

/-- R165, R177(e): slot ownership changes only in `BUILD` and `STOP`, and only from 0 to an id or from an id to 0. -/
def Obligations.SlotOwnershipChanges : Prop :=
  ∀ (i : Instr) (s t : State) (k : Fin 6), exec i s = .next t → (t.slotAt k).owner ≠ (s.slotAt k).owner →
    (i = .build ∨ i = .stop) ∧ (ServerInv s → (s.slotAt k).owner = 0 ∨ (t.slotAt k).owner = 0)

/-- R42: a record is never deleted, and of a record that stays, only an accepted reply of that robot writes the time and
the revision or clears `reclaimable`. -/
def Obligations.RecordsAreNeverDeleted : Prop :=
  ∀ (i : Instr) (s t : State) (id : RobotId), exec i s = .next t →
    ((s.cliAt id).valid = true → (t.cliAt id).valid = true) ∧
    (t.cliAt id ≠ s.cliAt id →
      ((i = .sweep ∨ i = .build) ∧ t.cliAt id = { s.cliAt id with reclaimable := true }) ∨
      (∃ rx, i = .rxr rx ∧ s.side.buf[3] = id ∧ (t.cliAt id).lastPacketTime = s.side.now ∧
        (t.cliAt id).reclaimable = false))

/-- R175: `RDCLI` gives the record, what the next sweep at this time would decide, and the slot the robot holds. -/
def Obligations.RdcliReadsTheRecord : Prop :=
  ∀ (s : State) (id : RobotId) (sl : BitVec 3), s.cfg.role = .server →
    (id = 0 → exec (.rdcli id) s = .next (s.raise .badOperand)) ∧
    (id ≠ 0 →
      (∃ k : Fin 6, (∀ j : Fin 6, (s.slotAt j).owner = id ↔ j = k) ∧ sl = BitVec.ofNat 3 k.val) ∨
        ((∀ k : Fin 6, (s.slotAt k).owner ≠ id) ∧ sl = 7) →
      let c := s.cliAt id
      exec (.rdcli id) s = .next (s.respond
        { word := 0#21 ++ sl ++ 0#1 ++ c.hardwareRevision
            ++ BitVec.ofBool (c.valid && decide (s.clientTimeout.toNat < (s.side.now - c.lastPacketTime).toNat))
            ++ BitVec.ofBool c.reclaimable ++ BitVec.ofBool c.valid
          bytes := none, cf := none, time := some c.lastPacketTime }))

/-- R176: `RDSLOT` gives the owner, whether a command is pending, and the claim; a slot index above 5 is refused. -/
def Obligations.RdslotReadsTheSlot : Prop :=
  ∀ (s : State) (sl : BitVec 3), s.cfg.role = .server →
    (6 ≤ sl.toNat → exec (.rdslot sl) s = .next (s.raise .badOperand)) ∧
    (∀ k : Fin 6, sl.toNat = k.val →
      exec (.rdslot sl) s = .next (s.respond (Result.ofWord
        (0#8 ++ (s.claimAt k).id ++ 0#5
          ++ (match (s.claimAt k).state with | .none => 0#2 | .one => 1#2 | .collided => 2#2)
          ++ BitVec.ofBool (s.slotAt k).cmdValid ++ (s.slotAt k).owner))))

/-! ### Invariants and the two ends of the radio link -/

/-- R23, R25, R42, R45, R160(d), R202: the state after reset is sound, under every configuration. Soundness holds two
clauses that are the model's own (log entry 14, DEDUCED): a pending reply belongs to a started client, and a claim that is
no single claimant's has id 0. -/
def Obligations.ResetIsSound : Prop := (∀ cfg : Config, Inv (State.resetWith cfg)) ∧ Inv State.reset

/-- R23, R25, R42, R45, R160(d), R202: every step keeps a sound state sound. Soundness holds two clauses that are the
model's own (log entry 14, DEDUCED): a pending reply belongs to a started client (R142, R145), and a claim that is no
single claimant's has id 0 (R145, R167, R173). -/
def Obligations.EveryStepKeepsTheStateSound : Prop := ∀ s t : State, Inv s → step s = .next t → Inv t

/-- R127, R160(a), R165: a frame that `BUILD` sends, handed unaltered to the client whose id owns slot `k`, connects that
client and schedules its reply in slot `k`; and a command posted for that owner reaches the client bit for bit. -/
def Obligations.BuiltFrameReachesItsRobot : Prop :=
  ∀ (s t c : State) (r : Response) (k : Fin 6), s.serving .server → ServerInv s → exec .build s = .next t →
    t.rsp = some r → c.serving .client → c.cfg.portControl = s.cfg.portControl →
    c.cfg.typeControl = s.cfg.typeControl → r.owedSend = some c.side.bytes → c.ownId ≠ 0 →
    (t.slotAt k).owner = c.ownId →
    ∃ u, exec .rxc c = .next u ∧ u.conn = true ∧ u.curCmdValid = true ∧ u.curCmd.recipientId = c.ownId ∧
      u.replyPending = true ∧ u.replySlot.toNat = k.val ∧ u.replyArmedTime = c.side.now ∧
      ((s.slotAt k).cmdValid = true → u.curCmd = (s.slotAt k).cmd.toRobot c.ownId)

/-- R158, R166: a reply that `CTICK` sends, handed unaltered to a server of the same port and type, refreshes exactly the
record of the client that sent it. -/
def Obligations.SentReplyReachesTheServer : Prop :=
  ∀ (c t s : State) (r : Response) (rx : BitVec 3), exec .ctick c = .next t → t.rsp = some r → s.serving .server →
    s.cfg.portControl = c.cfg.portControl → s.cfg.typeControl = c.cfg.typeControl →
    r.owedSend = some s.side.bytes →
    ∃ u, exec (.rxr rx) s = .next u ∧
      u.cliAt c.ownId =
        { valid := true, lastPacketTime := s.side.now, hardwareRevision := c.hwRev, reclaimable := false } ∧
      ∀ id : RobotId, id ≠ c.ownId → u.cliAt id = s.cliAt id

end
end

