-- ==== Sys2Proof/Laws/Bits.lean ====
section
/-! SUPPORT. The bit stream of a byte buffer (spec/00_scope.md R11): what `getBits` reads after `putBits`, and the
slot-indexed tables. -/

namespace Sys2Proof.Machine

open Sys2Proof

theorem getMsbD_ofBits (f : Nat → Bool) (w i : Nat) : (ofBits f w).getMsbD i = (decide (i < w) && f i) := by
  induction w with
  | zero => simp [ofBits, BitVec.getMsbD]
  | succ w ih =>
    rw [ofBits, BitVec.getMsbD_concat]
    split
    · next h => rw [ih]; simp [h, Nat.lt_succ_of_lt h]
    · next h =>
      by_cases hw : i = w
      · simp [hw]
      · have : ¬ i < w + 1 := by omega
        simp [hw, this]

/-- A value is the bits read off it, most significant first. -/
theorem ofBits_getMsbD (v : BitVec w) : ofBits (fun i => v.getMsbD i) w = v := by
  apply BitVec.eq_of_getMsbD_eq
  intro i hi
  rw [getMsbD_ofBits]
  simp [hi]

theorem ofBits_congr {f g : Nat → Bool} (w : Nat) (h : ∀ i, i < w → f i = g i) : ofBits f w = ofBits g w := by
  apply BitVec.eq_of_getMsbD_eq
  intro i hi
  rw [getMsbD_ofBits, getMsbD_ofBits, h i hi]

@[simp] theorem getMsbD_getBits (B : List Byte) (p w i : Nat) :
    (getBits B p w).getMsbD i = (decide (i < w) && streamBit B (p + i)) := getMsbD_ofBits _ _ _

/-- Two buffers with the same bits at `p` to `p + w - 1` read the same there. -/
theorem getBits_congr {B C : List Byte} {p w : Nat} (h : ∀ i, i < w → streamBit B (p + i) = streamBit C (p + i)) :
    getBits B p w = getBits C p w := ofBits_congr w h

@[simp] theorem length_putFrom (p : Nat) (v : BitVec w) (i : Nat) (B : List Byte) :
    (putFrom p v i B).length = B.length := by
  induction B generalizing i with
  | nil => rfl
  | cons b B ih => simp [putFrom, ih]

@[simp] theorem length_putBits (B : List Byte) (p : Nat) (v : BitVec w) : (putBits B p v).length = B.length :=
  length_putFrom p v 0 B

theorem getD_putFrom (p : Nat) (v : BitVec w) (i : Nat) (B : List Byte) (n : Nat) (h : n < B.length) :
    (putFrom p v i B).getD n 0 = putByte p v (i + n) (B.getD n 0) := by
  induction B generalizing i n with
  | nil => simp at h
  | cons b B ih =>
    cases n with
    | zero => simp [putFrom]
    | succ n =>
      simp only [List.length_cons] at h
      have := ih (i + 1) n (by omega)
      simp only [putFrom, List.getD_cons_succ, this]
      congr 1
      omega

theorem getMsbD_putByte (p : Nat) (v : BitVec w) (i : Nat) (b : Byte) (j : Nat) (hj : j < 8) :
    (putByte p v i b).getMsbD j =
      if p ≤ 8 * i + j ∧ 8 * i + j < p + w then v.getMsbD (8 * i + j - p) else b.getMsbD j := by
  unfold putByte
  split
  · next h => rw [if_neg (by omega)]
  · rw [getMsbD_ofBits]; simp [hj]

/-- `put` writes the bits of `v` at `p` to `p + w - 1` and changes no other bit (R11). -/
theorem streamBit_putBits (B : List Byte) (p : Nat) (v : BitVec w) (q : Nat) (h : q < 8 * B.length) :
    streamBit (putBits B p v) q = if p ≤ q ∧ q < p + w then v.getMsbD (q - p) else streamBit B q := by
  have hq : 8 * (q / 8) + q % 8 = q := Nat.div_add_mod q 8
  have hl : q / 8 < B.length := by omega
  rw [streamBit, putBits, getD_putFrom p v 0 B _ hl, Nat.zero_add, getMsbD_putByte _ _ _ _ _ (Nat.mod_lt _ (by omega)),
    hq]
  rfl

/-- Reading a field just written gives the value written. -/
theorem getBits_putBits_same (B : List Byte) (p : Nat) (v : BitVec w) (h : p + w ≤ 8 * B.length) :
    getBits (putBits B p v) p w = v := by
  apply BitVec.eq_of_getMsbD_eq
  intro i hi
  rw [getMsbD_getBits, streamBit_putBits _ _ _ _ (by omega)]
  simp [hi]

/-- Writing a field leaves every field that shares no position with it as it was. -/
theorem getBits_putBits_disjoint (B : List Byte) (p : Nat) (v : BitVec w) (q u : Nat) (h : q + u ≤ 8 * B.length)
    (hd : q + u ≤ p ∨ p + w ≤ q) : getBits (putBits B p v) q u = getBits B q u := by
  apply getBits_congr
  intro i hi
  rw [streamBit_putBits _ _ _ _ (by omega), if_neg (by omega)]

/-- Two buffers of the same length with the same bit at every position are the same buffer. -/
theorem eq_of_streamBit_eq {B C : List Byte} (hl : B.length = C.length)
    (h : ∀ q, q < 8 * B.length → streamBit B q = streamBit C q) : B = C := by
  apply List.ext_getElem hl
  intro n h1 h2
  apply BitVec.eq_of_getMsbD_eq
  intro i hi
  have := h (8 * n + i) (by omega)
  have hd : (8 * n + i) / 8 = n := by omega
  have hm : (8 * n + i) % 8 = i := by omega
  simpa [streamBit, hd, hm, List.getD_eq_getElem?_getD, h1, h2] using this

/-! ### Slot-indexed tables -/

@[simp] theorem slotTable_getElem (f : Fin 6 → α) (k : Fin 6) : (slotTable f)[k.val] = f k := by
  match k with
  | 0 | 1 | 2 | 3 | 4 | 5 => rfl

@[simp] theorem mem_slotIndices (k : Fin 6) : k ∈ slotIndices := by
  match k with
  | 0 | 1 | 2 | 3 | 4 | 5 => decide

/-- Bit `k` of a slot mask stands for slot `k` (R89). -/
@[simp] theorem getLsbD_slotMask (f : Fin 6 → Bool) (k : Fin 6) : (slotMask f).getLsbD k.val = f k := by
  match k with
  | 0 | 1 | 2 | 3 | 4 | 5 =>
    simp only [slotMask, BitVec.getLsbD_append, BitVec.getLsbD_ofBool]
    simp

@[simp] theorem toNat_slotBits (k : Fin 6) : (slotBits k).toNat = k.val := by
  match k with
  | 0 | 1 | 2 | 3 | 4 | 5 => rfl

@[simp] theorem slotOf_slotBits (k : Fin 6) : slotOf (slotBits k) = some k := by
  match k with
  | 0 | 1 | 2 | 3 | 4 | 5 => rfl

theorem slotOf_eq_some {s : BitVec 3} {k : Fin 6} (h : slotOf s = some k) : s.toNat = k.val := by
  unfold slotOf at h
  split at h
  · simp only [Option.some.injEq] at h; rw [← h]
  · cases h

theorem slotOf_eq_none {s : BitVec 3} (h : slotOf s = none) : 6 ≤ s.toNat := by
  unfold slotOf at h
  split at h
  · cases h
  · omega

/-! ### Response words -/

/-- A bit of a field placed in a response word (R89). -/
theorem getLsbD_rwField (lo : Nat) (v : BitVec w) (i : Nat) :
    (rwField lo v).getLsbD i = (decide (lo ≤ i) && decide (i < 32) && v.getLsbD (i - lo)) := by
  unfold rwField
  rw [BitVec.getLsbD_shiftLeft, BitVec.getLsbD_setWidth]
  by_cases h : i < lo
  · simp [h, Nat.not_le.mpr h]
  · by_cases h2 : i < 32 <;> simp [h, h2, Nat.not_lt.mp h]
    intro _; omega

/-- A bit of a flag placed in a response word (R89). -/
theorem getLsbD_rwFlag (lo : Nat) (b : Bool) (i : Nat) :
    (rwFlag lo b).getLsbD i = (decide (lo ≤ i) && decide (i < 32) && (BitVec.ofBool b).getLsbD (i - lo)) :=
  getLsbD_rwField lo _ i

end Sys2Proof.Machine
end

