-- ==== Sys2Proof/Laws/State.lean ====
section
/-! SUPPORT. What each named update of `State` does to each field: one lemma per field per update, so that no later
proof unfolds a record update. -/

namespace Sys2Proof.Machine

open Sys2Proof

@[simp] theorem State.resetWith_cfg (cfg : Config) : (State.resetWith cfg).cfg = cfg := rfl
@[simp] theorem State.resetWith_started (cfg : Config) : (State.resetWith cfg).started = false := rfl
@[simp] theorem State.resetWith_conn (cfg : Config) : (State.resetWith cfg).conn = false := rfl
@[simp] theorem State.resetWith_curCmd (cfg : Config) : (State.resetWith cfg).curCmd = ControlMessage.zero := rfl
@[simp] theorem State.resetWith_curCmdValid (cfg : Config) : (State.resetWith cfg).curCmdValid = false := rfl
@[simp] theorem State.resetWith_replyPending (cfg : Config) : (State.resetWith cfg).replyPending = false := rfl
@[simp] theorem State.resetWith_replySlot (cfg : Config) : (State.resetWith cfg).replySlot = 0 := rfl
@[simp] theorem State.resetWith_replyArmedTime (cfg : Config) : (State.resetWith cfg).replyArmedTime = 0 := rfl
@[simp] theorem State.resetWith_lastFrameTime (cfg : Config) : (State.resetWith cfg).lastFrameTime = 0 := rfl
@[simp] theorem State.resetWith_events (cfg : Config) : (State.resetWith cfg).events = 0 := rfl
@[simp] theorem State.resetWith_irqEn (cfg : Config) : (State.resetWith cfg).irqEn = 0 := rfl
@[simp] theorem State.resetWith_ownId (cfg : Config) : (State.resetWith cfg).ownId = 0 := rfl
@[simp] theorem State.resetWith_hwRev (cfg : Config) : (State.resetWith cfg).hwRev = 0 := rfl
@[simp] theorem State.resetWith_clientTimeout (cfg : Config) : (State.resetWith cfg).clientTimeout = clientTimeoutMs := rfl
@[simp] theorem State.resetWith_slotDuration (cfg : Config) : (State.resetWith cfg).slotDuration = cfg.slotDurationReset := rfl
@[simp] theorem State.resetWith_silenceWindow (cfg : Config) : (State.resetWith cfg).silenceWindow = 0 := rfl
@[simp] theorem State.resetWith_claimEn (cfg : Config) : (State.resetWith cfg).claimEn = true := rfl
@[simp] theorem State.resetWith_cli (cfg : Config) : (State.resetWith cfg).cli = Vector.replicate 255 CliRecord.empty := rfl
@[simp] theorem State.resetWith_slot (cfg : Config) : (State.resetWith cfg).slot = Vector.replicate 6 SlotEntry.vacant := rfl
@[simp] theorem State.resetWith_claim (cfg : Config) : (State.resetWith cfg).claim = Vector.replicate 6 Claim.cleared := rfl
@[simp] theorem State.resetWith_side (cfg : Config) : (State.resetWith cfg).side = SideOperands.zero := rfl
@[simp] theorem State.resetWith_rsp (cfg : Config) : (State.resetWith cfg).rsp = none := rfl
@[simp] theorem State.resetWith_inputs (cfg : Config) : (State.resetWith cfg).inputs = [] := rfl

/-! ### `respond` -/

@[simp] theorem State.respond_cfg (s : State) (r : Result) : (s.respond r).cfg = s.cfg := rfl
@[simp] theorem State.respond_started (s : State) (r : Result) : (s.respond r).started = s.started := rfl
@[simp] theorem State.respond_conn (s : State) (r : Result) : (s.respond r).conn = s.conn := rfl
@[simp] theorem State.respond_curCmd (s : State) (r : Result) : (s.respond r).curCmd = s.curCmd := rfl
@[simp] theorem State.respond_curCmdValid (s : State) (r : Result) : (s.respond r).curCmdValid = s.curCmdValid := rfl
@[simp] theorem State.respond_replyPending (s : State) (r : Result) : (s.respond r).replyPending = s.replyPending :=
  rfl
@[simp] theorem State.respond_replySlot (s : State) (r : Result) : (s.respond r).replySlot = s.replySlot := rfl
@[simp] theorem State.respond_replyArmedTime (s : State) (r : Result) : (s.respond r).replyArmedTime = s.replyArmedTime :=
  rfl
@[simp] theorem State.respond_lastFrameTime (s : State) (r : Result) : (s.respond r).lastFrameTime = s.lastFrameTime :=
  rfl
@[simp] theorem State.respond_events (s : State) (r : Result) : (s.respond r).events = s.events := rfl
@[simp] theorem State.respond_irqEn (s : State) (r : Result) : (s.respond r).irqEn = s.irqEn := rfl
@[simp] theorem State.respond_ownId (s : State) (r : Result) : (s.respond r).ownId = s.ownId := rfl
@[simp] theorem State.respond_hwRev (s : State) (r : Result) : (s.respond r).hwRev = s.hwRev := rfl
@[simp] theorem State.respond_clientTimeout (s : State) (r : Result) : (s.respond r).clientTimeout = s.clientTimeout :=
  rfl
@[simp] theorem State.respond_slotDuration (s : State) (r : Result) : (s.respond r).slotDuration = s.slotDuration :=
  rfl
@[simp] theorem State.respond_silenceWindow (s : State) (r : Result) : (s.respond r).silenceWindow = s.silenceWindow :=
  rfl
@[simp] theorem State.respond_claimEn (s : State) (r : Result) : (s.respond r).claimEn = s.claimEn := rfl
@[simp] theorem State.respond_cli (s : State) (r : Result) : (s.respond r).cli = s.cli := rfl
@[simp] theorem State.respond_slot (s : State) (r : Result) : (s.respond r).slot = s.slot := rfl
@[simp] theorem State.respond_claim (s : State) (r : Result) : (s.respond r).claim = s.claim := rfl
@[simp] theorem State.respond_side (s : State) (r : Result) : (s.respond r).side = s.side := rfl
@[simp] theorem State.respond_rsp (s : State) (r : Result) : (s.respond r).rsp = some (.ok r) := rfl
@[simp] theorem State.respond_inputs (s : State) (r : Result) : (s.respond r).inputs = s.inputs := rfl

/-! ### `raise` -/

@[simp] theorem State.raise_cfg (s : State) (e : Status) : (s.raise e).cfg = s.cfg := rfl
@[simp] theorem State.raise_started (s : State) (e : Status) : (s.raise e).started = s.started := rfl
@[simp] theorem State.raise_conn (s : State) (e : Status) : (s.raise e).conn = s.conn := rfl
@[simp] theorem State.raise_curCmd (s : State) (e : Status) : (s.raise e).curCmd = s.curCmd := rfl
@[simp] theorem State.raise_curCmdValid (s : State) (e : Status) : (s.raise e).curCmdValid = s.curCmdValid := rfl
@[simp] theorem State.raise_replyPending (s : State) (e : Status) : (s.raise e).replyPending = s.replyPending := rfl
@[simp] theorem State.raise_replySlot (s : State) (e : Status) : (s.raise e).replySlot = s.replySlot := rfl
@[simp] theorem State.raise_replyArmedTime (s : State) (e : Status) : (s.raise e).replyArmedTime = s.replyArmedTime :=
  rfl
@[simp] theorem State.raise_lastFrameTime (s : State) (e : Status) : (s.raise e).lastFrameTime = s.lastFrameTime :=
  rfl
@[simp] theorem State.raise_events (s : State) (e : Status) : (s.raise e).events = s.events := rfl
@[simp] theorem State.raise_irqEn (s : State) (e : Status) : (s.raise e).irqEn = s.irqEn := rfl
@[simp] theorem State.raise_ownId (s : State) (e : Status) : (s.raise e).ownId = s.ownId := rfl
@[simp] theorem State.raise_hwRev (s : State) (e : Status) : (s.raise e).hwRev = s.hwRev := rfl
@[simp] theorem State.raise_clientTimeout (s : State) (e : Status) : (s.raise e).clientTimeout = s.clientTimeout :=
  rfl
@[simp] theorem State.raise_slotDuration (s : State) (e : Status) : (s.raise e).slotDuration = s.slotDuration := rfl
@[simp] theorem State.raise_silenceWindow (s : State) (e : Status) : (s.raise e).silenceWindow = s.silenceWindow :=
  rfl
@[simp] theorem State.raise_claimEn (s : State) (e : Status) : (s.raise e).claimEn = s.claimEn := rfl
@[simp] theorem State.raise_cli (s : State) (e : Status) : (s.raise e).cli = s.cli := rfl
@[simp] theorem State.raise_slot (s : State) (e : Status) : (s.raise e).slot = s.slot := rfl
@[simp] theorem State.raise_claim (s : State) (e : Status) : (s.raise e).claim = s.claim := rfl
@[simp] theorem State.raise_side (s : State) (e : Status) : (s.raise e).side = s.side := rfl
@[simp] theorem State.raise_rsp (s : State) (e : Status) : (s.raise e).rsp = some (.raised e) := rfl
@[simp] theorem State.raise_inputs (s : State) (e : Status) : (s.raise e).inputs = s.inputs := rfl

/-! ### `accept` -/

@[simp] theorem State.accept_cfg (s : State) (e : Edge) : (s.accept e).cfg = s.cfg := rfl
@[simp] theorem State.accept_started (s : State) (e : Edge) : (s.accept e).started = s.started := rfl
@[simp] theorem State.accept_conn (s : State) (e : Edge) : (s.accept e).conn = s.conn := rfl
@[simp] theorem State.accept_curCmd (s : State) (e : Edge) : (s.accept e).curCmd = s.curCmd := rfl
@[simp] theorem State.accept_curCmdValid (s : State) (e : Edge) : (s.accept e).curCmdValid = s.curCmdValid := rfl
@[simp] theorem State.accept_replyPending (s : State) (e : Edge) : (s.accept e).replyPending = s.replyPending := rfl
@[simp] theorem State.accept_replySlot (s : State) (e : Edge) : (s.accept e).replySlot = s.replySlot := rfl
@[simp] theorem State.accept_replyArmedTime (s : State) (e : Edge) : (s.accept e).replyArmedTime = s.replyArmedTime :=
  rfl
@[simp] theorem State.accept_lastFrameTime (s : State) (e : Edge) : (s.accept e).lastFrameTime = s.lastFrameTime :=
  rfl
@[simp] theorem State.accept_events (s : State) (e : Edge) : (s.accept e).events = s.events := rfl
@[simp] theorem State.accept_irqEn (s : State) (e : Edge) : (s.accept e).irqEn = s.irqEn := rfl
@[simp] theorem State.accept_ownId (s : State) (e : Edge) : (s.accept e).ownId = s.ownId := rfl
@[simp] theorem State.accept_hwRev (s : State) (e : Edge) : (s.accept e).hwRev = s.hwRev := rfl
@[simp] theorem State.accept_clientTimeout (s : State) (e : Edge) : (s.accept e).clientTimeout = s.clientTimeout :=
  rfl
@[simp] theorem State.accept_slotDuration (s : State) (e : Edge) : (s.accept e).slotDuration = s.slotDuration := rfl
@[simp] theorem State.accept_silenceWindow (s : State) (e : Edge) : (s.accept e).silenceWindow = s.silenceWindow :=
  rfl
@[simp] theorem State.accept_claimEn (s : State) (e : Edge) : (s.accept e).claimEn = s.claimEn := rfl
@[simp] theorem State.accept_cli (s : State) (e : Edge) : (s.accept e).cli = s.cli := rfl
@[simp] theorem State.accept_slot (s : State) (e : Edge) : (s.accept e).slot = s.slot := rfl
@[simp] theorem State.accept_claim (s : State) (e : Edge) : (s.accept e).claim = s.claim := rfl
@[simp] theorem State.accept_side (s : State) (e : Edge) : (s.accept e).side = e.side := rfl
@[simp] theorem State.accept_rsp (s : State) (e : Edge) : (s.accept e).rsp = s.rsp := rfl
@[simp] theorem State.accept_inputs (s : State) (e : Edge) : (s.accept e).inputs = s.inputs := rfl

/-! ### `takeResponse` -/

@[simp] theorem State.takeResponse_cfg (s : State) : (s.takeResponse).cfg = s.cfg := rfl
@[simp] theorem State.takeResponse_started (s : State) : (s.takeResponse).started = s.started := rfl
@[simp] theorem State.takeResponse_conn (s : State) : (s.takeResponse).conn = s.conn := rfl
@[simp] theorem State.takeResponse_curCmd (s : State) : (s.takeResponse).curCmd = s.curCmd := rfl
@[simp] theorem State.takeResponse_curCmdValid (s : State) : (s.takeResponse).curCmdValid = s.curCmdValid := rfl
@[simp] theorem State.takeResponse_replyPending (s : State) : (s.takeResponse).replyPending = s.replyPending := rfl
@[simp] theorem State.takeResponse_replySlot (s : State) : (s.takeResponse).replySlot = s.replySlot := rfl
@[simp] theorem State.takeResponse_replyArmedTime (s : State) : (s.takeResponse).replyArmedTime = s.replyArmedTime :=
  rfl
@[simp] theorem State.takeResponse_lastFrameTime (s : State) : (s.takeResponse).lastFrameTime = s.lastFrameTime := rfl
@[simp] theorem State.takeResponse_events (s : State) : (s.takeResponse).events = s.events := rfl
@[simp] theorem State.takeResponse_irqEn (s : State) : (s.takeResponse).irqEn = s.irqEn := rfl
@[simp] theorem State.takeResponse_ownId (s : State) : (s.takeResponse).ownId = s.ownId := rfl
@[simp] theorem State.takeResponse_hwRev (s : State) : (s.takeResponse).hwRev = s.hwRev := rfl
@[simp] theorem State.takeResponse_clientTimeout (s : State) : (s.takeResponse).clientTimeout = s.clientTimeout := rfl
@[simp] theorem State.takeResponse_slotDuration (s : State) : (s.takeResponse).slotDuration = s.slotDuration := rfl
@[simp] theorem State.takeResponse_silenceWindow (s : State) : (s.takeResponse).silenceWindow = s.silenceWindow := rfl
@[simp] theorem State.takeResponse_claimEn (s : State) : (s.takeResponse).claimEn = s.claimEn := rfl
@[simp] theorem State.takeResponse_cli (s : State) : (s.takeResponse).cli = s.cli := rfl
@[simp] theorem State.takeResponse_slot (s : State) : (s.takeResponse).slot = s.slot := rfl
@[simp] theorem State.takeResponse_claim (s : State) : (s.takeResponse).claim = s.claim := rfl
@[simp] theorem State.takeResponse_side (s : State) : (s.takeResponse).side = s.side := rfl
@[simp] theorem State.takeResponse_rsp (s : State) : (s.takeResponse).rsp = none := rfl
@[simp] theorem State.takeResponse_inputs (s : State) : (s.takeResponse).inputs = s.inputs := rfl

/-! ### `noteEvent` -/

@[simp] theorem State.noteEvent_cfg (s : State) (e : Event) (b : Bool) : (s.noteEvent e b).cfg = s.cfg := rfl
@[simp] theorem State.noteEvent_started (s : State) (e : Event) (b : Bool) : (s.noteEvent e b).started = s.started :=
  rfl
@[simp] theorem State.noteEvent_conn (s : State) (e : Event) (b : Bool) : (s.noteEvent e b).conn = s.conn := rfl
@[simp] theorem State.noteEvent_curCmd (s : State) (e : Event) (b : Bool) : (s.noteEvent e b).curCmd = s.curCmd := rfl
@[simp] theorem State.noteEvent_curCmdValid (s : State) (e : Event) (b : Bool) : (s.noteEvent e b).curCmdValid = s.curCmdValid :=
  rfl
@[simp] theorem State.noteEvent_replyPending (s : State) (e : Event) (b : Bool) : (s.noteEvent e b).replyPending = s.replyPending :=
  rfl
@[simp] theorem State.noteEvent_replySlot (s : State) (e : Event) (b : Bool) : (s.noteEvent e b).replySlot = s.replySlot :=
  rfl
@[simp] theorem State.noteEvent_replyArmedTime (s : State) (e : Event) (b : Bool) : (s.noteEvent e b).replyArmedTime = s.replyArmedTime :=
  rfl
@[simp] theorem State.noteEvent_lastFrameTime (s : State) (e : Event) (b : Bool) : (s.noteEvent e b).lastFrameTime = s.lastFrameTime :=
  rfl
@[simp] theorem State.noteEvent_events (s : State) (e : Event) (b : Bool) : (s.noteEvent e b).events = if b then s.events ||| e.mask else s.events :=
  rfl
@[simp] theorem State.noteEvent_irqEn (s : State) (e : Event) (b : Bool) : (s.noteEvent e b).irqEn = s.irqEn := rfl
@[simp] theorem State.noteEvent_ownId (s : State) (e : Event) (b : Bool) : (s.noteEvent e b).ownId = s.ownId := rfl
@[simp] theorem State.noteEvent_hwRev (s : State) (e : Event) (b : Bool) : (s.noteEvent e b).hwRev = s.hwRev := rfl
@[simp] theorem State.noteEvent_clientTimeout (s : State) (e : Event) (b : Bool) : (s.noteEvent e b).clientTimeout = s.clientTimeout :=
  rfl
@[simp] theorem State.noteEvent_slotDuration (s : State) (e : Event) (b : Bool) : (s.noteEvent e b).slotDuration = s.slotDuration :=
  rfl
@[simp] theorem State.noteEvent_silenceWindow (s : State) (e : Event) (b : Bool) : (s.noteEvent e b).silenceWindow = s.silenceWindow :=
  rfl
@[simp] theorem State.noteEvent_claimEn (s : State) (e : Event) (b : Bool) : (s.noteEvent e b).claimEn = s.claimEn :=
  rfl
@[simp] theorem State.noteEvent_cli (s : State) (e : Event) (b : Bool) : (s.noteEvent e b).cli = s.cli := rfl
@[simp] theorem State.noteEvent_slot (s : State) (e : Event) (b : Bool) : (s.noteEvent e b).slot = s.slot := rfl
@[simp] theorem State.noteEvent_claim (s : State) (e : Event) (b : Bool) : (s.noteEvent e b).claim = s.claim := rfl
@[simp] theorem State.noteEvent_side (s : State) (e : Event) (b : Bool) : (s.noteEvent e b).side = s.side := rfl
@[simp] theorem State.noteEvent_rsp (s : State) (e : Event) (b : Bool) : (s.noteEvent e b).rsp = s.rsp := rfl
@[simp] theorem State.noteEvent_inputs (s : State) (e : Event) (b : Bool) : (s.noteEvent e b).inputs = s.inputs := rfl

/-! ### `clearEvents` -/

@[simp] theorem State.clearEvents_cfg (s : State) (v : BitVec 7) : (s.clearEvents v).cfg = s.cfg := rfl
@[simp] theorem State.clearEvents_started (s : State) (v : BitVec 7) : (s.clearEvents v).started = s.started := rfl
@[simp] theorem State.clearEvents_conn (s : State) (v : BitVec 7) : (s.clearEvents v).conn = s.conn := rfl
@[simp] theorem State.clearEvents_curCmd (s : State) (v : BitVec 7) : (s.clearEvents v).curCmd = s.curCmd := rfl
@[simp] theorem State.clearEvents_curCmdValid (s : State) (v : BitVec 7) : (s.clearEvents v).curCmdValid = s.curCmdValid :=
  rfl
@[simp] theorem State.clearEvents_replyPending (s : State) (v : BitVec 7) : (s.clearEvents v).replyPending = s.replyPending :=
  rfl
@[simp] theorem State.clearEvents_replySlot (s : State) (v : BitVec 7) : (s.clearEvents v).replySlot = s.replySlot :=
  rfl
@[simp] theorem State.clearEvents_replyArmedTime (s : State) (v : BitVec 7) : (s.clearEvents v).replyArmedTime = s.replyArmedTime :=
  rfl
@[simp] theorem State.clearEvents_lastFrameTime (s : State) (v : BitVec 7) : (s.clearEvents v).lastFrameTime = s.lastFrameTime :=
  rfl
@[simp] theorem State.clearEvents_events (s : State) (v : BitVec 7) : (s.clearEvents v).events = s.events &&& ~~~v :=
  rfl
@[simp] theorem State.clearEvents_irqEn (s : State) (v : BitVec 7) : (s.clearEvents v).irqEn = s.irqEn := rfl
@[simp] theorem State.clearEvents_ownId (s : State) (v : BitVec 7) : (s.clearEvents v).ownId = s.ownId := rfl
@[simp] theorem State.clearEvents_hwRev (s : State) (v : BitVec 7) : (s.clearEvents v).hwRev = s.hwRev := rfl
@[simp] theorem State.clearEvents_clientTimeout (s : State) (v : BitVec 7) : (s.clearEvents v).clientTimeout = s.clientTimeout :=
  rfl
@[simp] theorem State.clearEvents_slotDuration (s : State) (v : BitVec 7) : (s.clearEvents v).slotDuration = s.slotDuration :=
  rfl
@[simp] theorem State.clearEvents_silenceWindow (s : State) (v : BitVec 7) : (s.clearEvents v).silenceWindow = s.silenceWindow :=
  rfl
@[simp] theorem State.clearEvents_claimEn (s : State) (v : BitVec 7) : (s.clearEvents v).claimEn = s.claimEn := rfl
@[simp] theorem State.clearEvents_cli (s : State) (v : BitVec 7) : (s.clearEvents v).cli = s.cli := rfl
@[simp] theorem State.clearEvents_slot (s : State) (v : BitVec 7) : (s.clearEvents v).slot = s.slot := rfl
@[simp] theorem State.clearEvents_claim (s : State) (v : BitVec 7) : (s.clearEvents v).claim = s.claim := rfl
@[simp] theorem State.clearEvents_side (s : State) (v : BitVec 7) : (s.clearEvents v).side = s.side := rfl
@[simp] theorem State.clearEvents_rsp (s : State) (v : BitVec 7) : (s.clearEvents v).rsp = s.rsp := rfl
@[simp] theorem State.clearEvents_inputs (s : State) (v : BitVec 7) : (s.clearEvents v).inputs = s.inputs := rfl

/-! ### `setCli` -/

@[simp] theorem State.setCli_cfg (s : State) (id : RobotId) (r : CliRecord) : (s.setCli id r).cfg = s.cfg := by
   unfold State.setCli; split <;> rfl
@[simp] theorem State.setCli_started (s : State) (id : RobotId) (r : CliRecord) : (s.setCli id r).started = s.started := by
   unfold State.setCli; split <;> rfl
@[simp] theorem State.setCli_conn (s : State) (id : RobotId) (r : CliRecord) : (s.setCli id r).conn = s.conn := by
   unfold State.setCli; split <;> rfl
@[simp] theorem State.setCli_curCmd (s : State) (id : RobotId) (r : CliRecord) : (s.setCli id r).curCmd = s.curCmd := by
   unfold State.setCli; split <;> rfl
@[simp] theorem State.setCli_curCmdValid (s : State) (id : RobotId) (r : CliRecord) : (s.setCli id r).curCmdValid = s.curCmdValid := by
   unfold State.setCli; split <;> rfl
@[simp] theorem State.setCli_replyPending (s : State) (id : RobotId) (r : CliRecord) : (s.setCli id r).replyPending = s.replyPending := by
   unfold State.setCli; split <;> rfl
@[simp] theorem State.setCli_replySlot (s : State) (id : RobotId) (r : CliRecord) : (s.setCli id r).replySlot = s.replySlot := by
   unfold State.setCli; split <;> rfl
@[simp] theorem State.setCli_replyArmedTime (s : State) (id : RobotId) (r : CliRecord) : (s.setCli id r).replyArmedTime = s.replyArmedTime := by
   unfold State.setCli; split <;> rfl
@[simp] theorem State.setCli_lastFrameTime (s : State) (id : RobotId) (r : CliRecord) : (s.setCli id r).lastFrameTime = s.lastFrameTime := by
   unfold State.setCli; split <;> rfl
@[simp] theorem State.setCli_events (s : State) (id : RobotId) (r : CliRecord) : (s.setCli id r).events = s.events := by
   unfold State.setCli; split <;> rfl
@[simp] theorem State.setCli_irqEn (s : State) (id : RobotId) (r : CliRecord) : (s.setCli id r).irqEn = s.irqEn := by
   unfold State.setCli; split <;> rfl
@[simp] theorem State.setCli_ownId (s : State) (id : RobotId) (r : CliRecord) : (s.setCli id r).ownId = s.ownId := by
   unfold State.setCli; split <;> rfl
@[simp] theorem State.setCli_hwRev (s : State) (id : RobotId) (r : CliRecord) : (s.setCli id r).hwRev = s.hwRev := by
   unfold State.setCli; split <;> rfl
@[simp] theorem State.setCli_clientTimeout (s : State) (id : RobotId) (r : CliRecord) : (s.setCli id r).clientTimeout = s.clientTimeout := by
   unfold State.setCli; split <;> rfl
@[simp] theorem State.setCli_slotDuration (s : State) (id : RobotId) (r : CliRecord) : (s.setCli id r).slotDuration = s.slotDuration := by
   unfold State.setCli; split <;> rfl
@[simp] theorem State.setCli_silenceWindow (s : State) (id : RobotId) (r : CliRecord) : (s.setCli id r).silenceWindow = s.silenceWindow := by
   unfold State.setCli; split <;> rfl
@[simp] theorem State.setCli_claimEn (s : State) (id : RobotId) (r : CliRecord) : (s.setCli id r).claimEn = s.claimEn := by
   unfold State.setCli; split <;> rfl
@[simp] theorem State.setCli_slot (s : State) (id : RobotId) (r : CliRecord) : (s.setCli id r).slot = s.slot := by
   unfold State.setCli; split <;> rfl
@[simp] theorem State.setCli_claim (s : State) (id : RobotId) (r : CliRecord) : (s.setCli id r).claim = s.claim := by
   unfold State.setCli; split <;> rfl
@[simp] theorem State.setCli_side (s : State) (id : RobotId) (r : CliRecord) : (s.setCli id r).side = s.side := by
   unfold State.setCli; split <;> rfl
@[simp] theorem State.setCli_rsp (s : State) (id : RobotId) (r : CliRecord) : (s.setCli id r).rsp = s.rsp := by
   unfold State.setCli; split <;> rfl
@[simp] theorem State.setCli_inputs (s : State) (id : RobotId) (r : CliRecord) : (s.setCli id r).inputs = s.inputs := by
   unfold State.setCli; split <;> rfl

/-! ### `setSlot` -/

@[simp] theorem State.setSlot_cfg (s : State) (k : Fin 6) (e : SlotEntry) : (s.setSlot k e).cfg = s.cfg := rfl
@[simp] theorem State.setSlot_started (s : State) (k : Fin 6) (e : SlotEntry) : (s.setSlot k e).started = s.started :=
  rfl
@[simp] theorem State.setSlot_conn (s : State) (k : Fin 6) (e : SlotEntry) : (s.setSlot k e).conn = s.conn := rfl
@[simp] theorem State.setSlot_curCmd (s : State) (k : Fin 6) (e : SlotEntry) : (s.setSlot k e).curCmd = s.curCmd :=
  rfl
@[simp] theorem State.setSlot_curCmdValid (s : State) (k : Fin 6) (e : SlotEntry) : (s.setSlot k e).curCmdValid = s.curCmdValid :=
  rfl
@[simp] theorem State.setSlot_replyPending (s : State) (k : Fin 6) (e : SlotEntry) : (s.setSlot k e).replyPending = s.replyPending :=
  rfl
@[simp] theorem State.setSlot_replySlot (s : State) (k : Fin 6) (e : SlotEntry) : (s.setSlot k e).replySlot = s.replySlot :=
  rfl
@[simp] theorem State.setSlot_replyArmedTime (s : State) (k : Fin 6) (e : SlotEntry) : (s.setSlot k e).replyArmedTime = s.replyArmedTime :=
  rfl
@[simp] theorem State.setSlot_lastFrameTime (s : State) (k : Fin 6) (e : SlotEntry) : (s.setSlot k e).lastFrameTime = s.lastFrameTime :=
  rfl
@[simp] theorem State.setSlot_events (s : State) (k : Fin 6) (e : SlotEntry) : (s.setSlot k e).events = s.events :=
  rfl
@[simp] theorem State.setSlot_irqEn (s : State) (k : Fin 6) (e : SlotEntry) : (s.setSlot k e).irqEn = s.irqEn := rfl
@[simp] theorem State.setSlot_ownId (s : State) (k : Fin 6) (e : SlotEntry) : (s.setSlot k e).ownId = s.ownId := rfl
@[simp] theorem State.setSlot_hwRev (s : State) (k : Fin 6) (e : SlotEntry) : (s.setSlot k e).hwRev = s.hwRev := rfl
@[simp] theorem State.setSlot_clientTimeout (s : State) (k : Fin 6) (e : SlotEntry) : (s.setSlot k e).clientTimeout = s.clientTimeout :=
  rfl
@[simp] theorem State.setSlot_slotDuration (s : State) (k : Fin 6) (e : SlotEntry) : (s.setSlot k e).slotDuration = s.slotDuration :=
  rfl
@[simp] theorem State.setSlot_silenceWindow (s : State) (k : Fin 6) (e : SlotEntry) : (s.setSlot k e).silenceWindow = s.silenceWindow :=
  rfl
@[simp] theorem State.setSlot_claimEn (s : State) (k : Fin 6) (e : SlotEntry) : (s.setSlot k e).claimEn = s.claimEn :=
  rfl
@[simp] theorem State.setSlot_cli (s : State) (k : Fin 6) (e : SlotEntry) : (s.setSlot k e).cli = s.cli := rfl
@[simp] theorem State.setSlot_slot (s : State) (k : Fin 6) (e : SlotEntry) : (s.setSlot k e).slot = s.slot.set k.val e :=
  rfl
@[simp] theorem State.setSlot_claim (s : State) (k : Fin 6) (e : SlotEntry) : (s.setSlot k e).claim = s.claim := rfl
@[simp] theorem State.setSlot_side (s : State) (k : Fin 6) (e : SlotEntry) : (s.setSlot k e).side = s.side := rfl
@[simp] theorem State.setSlot_rsp (s : State) (k : Fin 6) (e : SlotEntry) : (s.setSlot k e).rsp = s.rsp := rfl
@[simp] theorem State.setSlot_inputs (s : State) (k : Fin 6) (e : SlotEntry) : (s.setSlot k e).inputs = s.inputs :=
  rfl

/-! ### `setClaim` -/

@[simp] theorem State.setClaim_cfg (s : State) (k : Fin 6) (c : Claim) : (s.setClaim k c).cfg = s.cfg := rfl
@[simp] theorem State.setClaim_started (s : State) (k : Fin 6) (c : Claim) : (s.setClaim k c).started = s.started :=
  rfl
@[simp] theorem State.setClaim_conn (s : State) (k : Fin 6) (c : Claim) : (s.setClaim k c).conn = s.conn := rfl
@[simp] theorem State.setClaim_curCmd (s : State) (k : Fin 6) (c : Claim) : (s.setClaim k c).curCmd = s.curCmd := rfl
@[simp] theorem State.setClaim_curCmdValid (s : State) (k : Fin 6) (c : Claim) : (s.setClaim k c).curCmdValid = s.curCmdValid :=
  rfl
@[simp] theorem State.setClaim_replyPending (s : State) (k : Fin 6) (c : Claim) : (s.setClaim k c).replyPending = s.replyPending :=
  rfl
@[simp] theorem State.setClaim_replySlot (s : State) (k : Fin 6) (c : Claim) : (s.setClaim k c).replySlot = s.replySlot :=
  rfl
@[simp] theorem State.setClaim_replyArmedTime (s : State) (k : Fin 6) (c : Claim) : (s.setClaim k c).replyArmedTime = s.replyArmedTime :=
  rfl
@[simp] theorem State.setClaim_lastFrameTime (s : State) (k : Fin 6) (c : Claim) : (s.setClaim k c).lastFrameTime = s.lastFrameTime :=
  rfl
@[simp] theorem State.setClaim_events (s : State) (k : Fin 6) (c : Claim) : (s.setClaim k c).events = s.events := rfl
@[simp] theorem State.setClaim_irqEn (s : State) (k : Fin 6) (c : Claim) : (s.setClaim k c).irqEn = s.irqEn := rfl
@[simp] theorem State.setClaim_ownId (s : State) (k : Fin 6) (c : Claim) : (s.setClaim k c).ownId = s.ownId := rfl
@[simp] theorem State.setClaim_hwRev (s : State) (k : Fin 6) (c : Claim) : (s.setClaim k c).hwRev = s.hwRev := rfl
@[simp] theorem State.setClaim_clientTimeout (s : State) (k : Fin 6) (c : Claim) : (s.setClaim k c).clientTimeout = s.clientTimeout :=
  rfl
@[simp] theorem State.setClaim_slotDuration (s : State) (k : Fin 6) (c : Claim) : (s.setClaim k c).slotDuration = s.slotDuration :=
  rfl
@[simp] theorem State.setClaim_silenceWindow (s : State) (k : Fin 6) (c : Claim) : (s.setClaim k c).silenceWindow = s.silenceWindow :=
  rfl
@[simp] theorem State.setClaim_claimEn (s : State) (k : Fin 6) (c : Claim) : (s.setClaim k c).claimEn = s.claimEn :=
  rfl
@[simp] theorem State.setClaim_cli (s : State) (k : Fin 6) (c : Claim) : (s.setClaim k c).cli = s.cli := rfl
@[simp] theorem State.setClaim_slot (s : State) (k : Fin 6) (c : Claim) : (s.setClaim k c).slot = s.slot := rfl
@[simp] theorem State.setClaim_claim (s : State) (k : Fin 6) (c : Claim) : (s.setClaim k c).claim = s.claim.set k.val c :=
  rfl
@[simp] theorem State.setClaim_side (s : State) (k : Fin 6) (c : Claim) : (s.setClaim k c).side = s.side := rfl
@[simp] theorem State.setClaim_rsp (s : State) (k : Fin 6) (c : Claim) : (s.setClaim k c).rsp = s.rsp := rfl
@[simp] theorem State.setClaim_inputs (s : State) (k : Fin 6) (c : Claim) : (s.setClaim k c).inputs = s.inputs := rfl

/-! ### `scheduleReply` -/

@[simp] theorem State.scheduleReply_cfg (s : State) (k : Fin 6) (now : Time) : (s.scheduleReply k now).cfg = s.cfg :=
  rfl
@[simp] theorem State.scheduleReply_started (s : State) (k : Fin 6) (now : Time) : (s.scheduleReply k now).started = s.started :=
  rfl
@[simp] theorem State.scheduleReply_conn (s : State) (k : Fin 6) (now : Time) : (s.scheduleReply k now).conn = s.conn :=
  rfl
@[simp] theorem State.scheduleReply_curCmd (s : State) (k : Fin 6) (now : Time) : (s.scheduleReply k now).curCmd = s.curCmd :=
  rfl
@[simp] theorem State.scheduleReply_curCmdValid (s : State) (k : Fin 6) (now : Time) : (s.scheduleReply k now).curCmdValid = s.curCmdValid :=
  rfl
@[simp] theorem State.scheduleReply_replyPending (s : State) (k : Fin 6) (now : Time) : (s.scheduleReply k now).replyPending = true :=
  rfl
@[simp] theorem State.scheduleReply_replySlot (s : State) (k : Fin 6) (now : Time) : (s.scheduleReply k now).replySlot = slotBits k :=
  rfl
@[simp] theorem State.scheduleReply_replyArmedTime (s : State) (k : Fin 6) (now : Time) : (s.scheduleReply k now).replyArmedTime = now :=
  rfl
@[simp] theorem State.scheduleReply_lastFrameTime (s : State) (k : Fin 6) (now : Time) : (s.scheduleReply k now).lastFrameTime = s.lastFrameTime :=
  rfl
@[simp] theorem State.scheduleReply_events (s : State) (k : Fin 6) (now : Time) : (s.scheduleReply k now).events = s.events :=
  rfl
@[simp] theorem State.scheduleReply_irqEn (s : State) (k : Fin 6) (now : Time) : (s.scheduleReply k now).irqEn = s.irqEn :=
  rfl
@[simp] theorem State.scheduleReply_ownId (s : State) (k : Fin 6) (now : Time) : (s.scheduleReply k now).ownId = s.ownId :=
  rfl
@[simp] theorem State.scheduleReply_hwRev (s : State) (k : Fin 6) (now : Time) : (s.scheduleReply k now).hwRev = s.hwRev :=
  rfl
@[simp] theorem State.scheduleReply_clientTimeout (s : State) (k : Fin 6) (now : Time) : (s.scheduleReply k now).clientTimeout = s.clientTimeout :=
  rfl
@[simp] theorem State.scheduleReply_slotDuration (s : State) (k : Fin 6) (now : Time) : (s.scheduleReply k now).slotDuration = s.slotDuration :=
  rfl
@[simp] theorem State.scheduleReply_silenceWindow (s : State) (k : Fin 6) (now : Time) : (s.scheduleReply k now).silenceWindow = s.silenceWindow :=
  rfl
@[simp] theorem State.scheduleReply_claimEn (s : State) (k : Fin 6) (now : Time) : (s.scheduleReply k now).claimEn = s.claimEn :=
  rfl
@[simp] theorem State.scheduleReply_cli (s : State) (k : Fin 6) (now : Time) : (s.scheduleReply k now).cli = s.cli :=
  rfl
@[simp] theorem State.scheduleReply_slot (s : State) (k : Fin 6) (now : Time) : (s.scheduleReply k now).slot = s.slot :=
  rfl
@[simp] theorem State.scheduleReply_claim (s : State) (k : Fin 6) (now : Time) : (s.scheduleReply k now).claim = s.claim :=
  rfl
@[simp] theorem State.scheduleReply_side (s : State) (k : Fin 6) (now : Time) : (s.scheduleReply k now).side = s.side :=
  rfl
@[simp] theorem State.scheduleReply_rsp (s : State) (k : Fin 6) (now : Time) : (s.scheduleReply k now).rsp = s.rsp :=
  rfl
@[simp] theorem State.scheduleReply_inputs (s : State) (k : Fin 6) (now : Time) : (s.scheduleReply k now).inputs = s.inputs :=
  rfl

/-! ### `rxcMatched` -/

@[simp] theorem State.rxcMatched_cfg (s : State) (F : ControlFrame) (k : Fin 6) (now : Time) : (s.rxcMatched F k now).cfg = s.cfg :=
  rfl
@[simp] theorem State.rxcMatched_started (s : State) (F : ControlFrame) (k : Fin 6) (now : Time) : (s.rxcMatched F k now).started = s.started :=
  rfl
@[simp] theorem State.rxcMatched_conn (s : State) (F : ControlFrame) (k : Fin 6) (now : Time) : (s.rxcMatched F k now).conn = true :=
  rfl
@[simp] theorem State.rxcMatched_curCmd (s : State) (F : ControlFrame) (k : Fin 6) (now : Time) : (s.rxcMatched F k now).curCmd = F.msg k :=
  rfl
@[simp] theorem State.rxcMatched_curCmdValid (s : State) (F : ControlFrame) (k : Fin 6) (now : Time) : (s.rxcMatched F k now).curCmdValid = true :=
  rfl
@[simp] theorem State.rxcMatched_replyPending (s : State) (F : ControlFrame) (k : Fin 6) (now : Time) : (s.rxcMatched F k now).replyPending = true :=
  rfl
@[simp] theorem State.rxcMatched_replySlot (s : State) (F : ControlFrame) (k : Fin 6) (now : Time) : (s.rxcMatched F k now).replySlot = slotBits k :=
  rfl
@[simp] theorem State.rxcMatched_replyArmedTime (s : State) (F : ControlFrame) (k : Fin 6) (now : Time) : (s.rxcMatched F k now).replyArmedTime = now :=
  rfl
@[simp] theorem State.rxcMatched_lastFrameTime (s : State) (F : ControlFrame) (k : Fin 6) (now : Time) : (s.rxcMatched F k now).lastFrameTime = now :=
  rfl
@[simp] theorem State.rxcMatched_events (s : State) (F : ControlFrame) (k : Fin 6) (now : Time) : (s.rxcMatched F k now).events = (s.noteEvent .connUp (!s.conn)).events :=
  rfl
@[simp] theorem State.rxcMatched_irqEn (s : State) (F : ControlFrame) (k : Fin 6) (now : Time) : (s.rxcMatched F k now).irqEn = s.irqEn :=
  rfl
@[simp] theorem State.rxcMatched_ownId (s : State) (F : ControlFrame) (k : Fin 6) (now : Time) : (s.rxcMatched F k now).ownId = s.ownId :=
  rfl
@[simp] theorem State.rxcMatched_hwRev (s : State) (F : ControlFrame) (k : Fin 6) (now : Time) : (s.rxcMatched F k now).hwRev = s.hwRev :=
  rfl
@[simp] theorem State.rxcMatched_clientTimeout (s : State) (F : ControlFrame) (k : Fin 6) (now : Time) : (s.rxcMatched F k now).clientTimeout = s.clientTimeout :=
  rfl
@[simp] theorem State.rxcMatched_slotDuration (s : State) (F : ControlFrame) (k : Fin 6) (now : Time) : (s.rxcMatched F k now).slotDuration = s.slotDuration :=
  rfl
@[simp] theorem State.rxcMatched_silenceWindow (s : State) (F : ControlFrame) (k : Fin 6) (now : Time) : (s.rxcMatched F k now).silenceWindow = s.silenceWindow :=
  rfl
@[simp] theorem State.rxcMatched_claimEn (s : State) (F : ControlFrame) (k : Fin 6) (now : Time) : (s.rxcMatched F k now).claimEn = s.claimEn :=
  rfl
@[simp] theorem State.rxcMatched_cli (s : State) (F : ControlFrame) (k : Fin 6) (now : Time) : (s.rxcMatched F k now).cli = s.cli :=
  rfl
@[simp] theorem State.rxcMatched_slot (s : State) (F : ControlFrame) (k : Fin 6) (now : Time) : (s.rxcMatched F k now).slot = s.slot :=
  rfl
@[simp] theorem State.rxcMatched_claim (s : State) (F : ControlFrame) (k : Fin 6) (now : Time) : (s.rxcMatched F k now).claim = s.claim :=
  rfl
@[simp] theorem State.rxcMatched_side (s : State) (F : ControlFrame) (k : Fin 6) (now : Time) : (s.rxcMatched F k now).side = s.side :=
  rfl
@[simp] theorem State.rxcMatched_rsp (s : State) (F : ControlFrame) (k : Fin 6) (now : Time) : (s.rxcMatched F k now).rsp = s.rsp :=
  rfl
@[simp] theorem State.rxcMatched_inputs (s : State) (F : ControlFrame) (k : Fin 6) (now : Time) : (s.rxcMatched F k now).inputs = s.inputs :=
  rfl

/-! ### `rxcUnmatched` -/

@[simp] theorem State.rxcUnmatched_cfg (s : State) (now : Time) : (s.rxcUnmatched now).cfg = s.cfg := rfl
@[simp] theorem State.rxcUnmatched_started (s : State) (now : Time) : (s.rxcUnmatched now).started = s.started := rfl
@[simp] theorem State.rxcUnmatched_conn (s : State) (now : Time) : (s.rxcUnmatched now).conn = false := rfl
@[simp] theorem State.rxcUnmatched_curCmd (s : State) (now : Time) : (s.rxcUnmatched now).curCmd = s.curCmd := rfl
@[simp] theorem State.rxcUnmatched_curCmdValid (s : State) (now : Time) : (s.rxcUnmatched now).curCmdValid = false :=
  rfl
@[simp] theorem State.rxcUnmatched_replyPending (s : State) (now : Time) : (s.rxcUnmatched now).replyPending = false :=
  rfl
@[simp] theorem State.rxcUnmatched_replySlot (s : State) (now : Time) : (s.rxcUnmatched now).replySlot = s.replySlot :=
  rfl
@[simp] theorem State.rxcUnmatched_replyArmedTime (s : State) (now : Time) : (s.rxcUnmatched now).replyArmedTime = s.replyArmedTime :=
  rfl
@[simp] theorem State.rxcUnmatched_lastFrameTime (s : State) (now : Time) : (s.rxcUnmatched now).lastFrameTime = now :=
  rfl
@[simp] theorem State.rxcUnmatched_events (s : State) (now : Time) : (s.rxcUnmatched now).events = (s.noteEvent .connDown s.conn).events :=
  rfl
@[simp] theorem State.rxcUnmatched_irqEn (s : State) (now : Time) : (s.rxcUnmatched now).irqEn = s.irqEn := rfl
@[simp] theorem State.rxcUnmatched_ownId (s : State) (now : Time) : (s.rxcUnmatched now).ownId = s.ownId := rfl
@[simp] theorem State.rxcUnmatched_hwRev (s : State) (now : Time) : (s.rxcUnmatched now).hwRev = s.hwRev := rfl
@[simp] theorem State.rxcUnmatched_clientTimeout (s : State) (now : Time) : (s.rxcUnmatched now).clientTimeout = s.clientTimeout :=
  rfl
@[simp] theorem State.rxcUnmatched_slotDuration (s : State) (now : Time) : (s.rxcUnmatched now).slotDuration = s.slotDuration :=
  rfl
@[simp] theorem State.rxcUnmatched_silenceWindow (s : State) (now : Time) : (s.rxcUnmatched now).silenceWindow = s.silenceWindow :=
  rfl
@[simp] theorem State.rxcUnmatched_claimEn (s : State) (now : Time) : (s.rxcUnmatched now).claimEn = s.claimEn := rfl
@[simp] theorem State.rxcUnmatched_cli (s : State) (now : Time) : (s.rxcUnmatched now).cli = s.cli := rfl
@[simp] theorem State.rxcUnmatched_slot (s : State) (now : Time) : (s.rxcUnmatched now).slot = s.slot := rfl
@[simp] theorem State.rxcUnmatched_claim (s : State) (now : Time) : (s.rxcUnmatched now).claim = s.claim := rfl
@[simp] theorem State.rxcUnmatched_side (s : State) (now : Time) : (s.rxcUnmatched now).side = s.side := rfl
@[simp] theorem State.rxcUnmatched_rsp (s : State) (now : Time) : (s.rxcUnmatched now).rsp = s.rsp := rfl
@[simp] theorem State.rxcUnmatched_inputs (s : State) (now : Time) : (s.rxcUnmatched now).inputs = s.inputs := rfl

/-! ### `fireReply` -/

@[simp] theorem State.fireReply_cfg (s : State) (now : Time) : (s.fireReply now).cfg = s.cfg := rfl
@[simp] theorem State.fireReply_started (s : State) (now : Time) : (s.fireReply now).started = s.started := rfl
@[simp] theorem State.fireReply_conn (s : State) (now : Time) : (s.fireReply now).conn = s.conn := rfl
@[simp] theorem State.fireReply_curCmd (s : State) (now : Time) : (s.fireReply now).curCmd = s.curCmd := rfl
@[simp] theorem State.fireReply_curCmdValid (s : State) (now : Time) : (s.fireReply now).curCmdValid = s.curCmdValid :=
  rfl
@[simp] theorem State.fireReply_replyPending (s : State) (now : Time) : (s.fireReply now).replyPending = (s.replyPending && !s.replyDue now) :=
  rfl
@[simp] theorem State.fireReply_replySlot (s : State) (now : Time) : (s.fireReply now).replySlot = s.replySlot := rfl
@[simp] theorem State.fireReply_replyArmedTime (s : State) (now : Time) : (s.fireReply now).replyArmedTime = s.replyArmedTime :=
  rfl
@[simp] theorem State.fireReply_lastFrameTime (s : State) (now : Time) : (s.fireReply now).lastFrameTime = s.lastFrameTime :=
  rfl
@[simp] theorem State.fireReply_events (s : State) (now : Time) : (s.fireReply now).events = s.events := rfl
@[simp] theorem State.fireReply_irqEn (s : State) (now : Time) : (s.fireReply now).irqEn = s.irqEn := rfl
@[simp] theorem State.fireReply_ownId (s : State) (now : Time) : (s.fireReply now).ownId = s.ownId := rfl
@[simp] theorem State.fireReply_hwRev (s : State) (now : Time) : (s.fireReply now).hwRev = s.hwRev := rfl
@[simp] theorem State.fireReply_clientTimeout (s : State) (now : Time) : (s.fireReply now).clientTimeout = s.clientTimeout :=
  rfl
@[simp] theorem State.fireReply_slotDuration (s : State) (now : Time) : (s.fireReply now).slotDuration = s.slotDuration :=
  rfl
@[simp] theorem State.fireReply_silenceWindow (s : State) (now : Time) : (s.fireReply now).silenceWindow = s.silenceWindow :=
  rfl
@[simp] theorem State.fireReply_claimEn (s : State) (now : Time) : (s.fireReply now).claimEn = s.claimEn := rfl
@[simp] theorem State.fireReply_cli (s : State) (now : Time) : (s.fireReply now).cli = s.cli := rfl
@[simp] theorem State.fireReply_slot (s : State) (now : Time) : (s.fireReply now).slot = s.slot := rfl
@[simp] theorem State.fireReply_claim (s : State) (now : Time) : (s.fireReply now).claim = s.claim := rfl
@[simp] theorem State.fireReply_side (s : State) (now : Time) : (s.fireReply now).side = s.side := rfl
@[simp] theorem State.fireReply_rsp (s : State) (now : Time) : (s.fireReply now).rsp = s.rsp := rfl
@[simp] theorem State.fireReply_inputs (s : State) (now : Time) : (s.fireReply now).inputs = s.inputs := rfl

/-! ### `checkSilence` -/

@[simp] theorem State.checkSilence_cfg (s : State) (now : Time) : (s.checkSilence now).cfg = s.cfg := rfl
@[simp] theorem State.checkSilence_started (s : State) (now : Time) : (s.checkSilence now).started = s.started := rfl
@[simp] theorem State.checkSilence_conn (s : State) (now : Time) : (s.checkSilence now).conn = (s.conn && !s.silent now) :=
  rfl
@[simp] theorem State.checkSilence_curCmd (s : State) (now : Time) : (s.checkSilence now).curCmd = s.curCmd := rfl
@[simp] theorem State.checkSilence_curCmdValid (s : State) (now : Time) : (s.checkSilence now).curCmdValid = (s.curCmdValid && !s.silent now) :=
  rfl
@[simp] theorem State.checkSilence_replyPending (s : State) (now : Time) : (s.checkSilence now).replyPending = s.replyPending :=
  rfl
@[simp] theorem State.checkSilence_replySlot (s : State) (now : Time) : (s.checkSilence now).replySlot = s.replySlot :=
  rfl
@[simp] theorem State.checkSilence_replyArmedTime (s : State) (now : Time) : (s.checkSilence now).replyArmedTime = s.replyArmedTime :=
  rfl
@[simp] theorem State.checkSilence_lastFrameTime (s : State) (now : Time) : (s.checkSilence now).lastFrameTime = s.lastFrameTime :=
  rfl
@[simp] theorem State.checkSilence_events (s : State) (now : Time) : (s.checkSilence now).events = (s.noteEvent .connDown (s.silent now)).events :=
  rfl
@[simp] theorem State.checkSilence_irqEn (s : State) (now : Time) : (s.checkSilence now).irqEn = s.irqEn := rfl
@[simp] theorem State.checkSilence_ownId (s : State) (now : Time) : (s.checkSilence now).ownId = s.ownId := rfl
@[simp] theorem State.checkSilence_hwRev (s : State) (now : Time) : (s.checkSilence now).hwRev = s.hwRev := rfl
@[simp] theorem State.checkSilence_clientTimeout (s : State) (now : Time) : (s.checkSilence now).clientTimeout = s.clientTimeout :=
  rfl
@[simp] theorem State.checkSilence_slotDuration (s : State) (now : Time) : (s.checkSilence now).slotDuration = s.slotDuration :=
  rfl
@[simp] theorem State.checkSilence_silenceWindow (s : State) (now : Time) : (s.checkSilence now).silenceWindow = s.silenceWindow :=
  rfl
@[simp] theorem State.checkSilence_claimEn (s : State) (now : Time) : (s.checkSilence now).claimEn = s.claimEn := rfl
@[simp] theorem State.checkSilence_cli (s : State) (now : Time) : (s.checkSilence now).cli = s.cli := rfl
@[simp] theorem State.checkSilence_slot (s : State) (now : Time) : (s.checkSilence now).slot = s.slot := rfl
@[simp] theorem State.checkSilence_claim (s : State) (now : Time) : (s.checkSilence now).claim = s.claim := rfl
@[simp] theorem State.checkSilence_side (s : State) (now : Time) : (s.checkSilence now).side = s.side := rfl
@[simp] theorem State.checkSilence_rsp (s : State) (now : Time) : (s.checkSilence now).rsp = s.rsp := rfl
@[simp] theorem State.checkSilence_inputs (s : State) (now : Time) : (s.checkSilence now).inputs = s.inputs := rfl

/-! ### `stopClient` -/

@[simp] theorem State.stopClient_cfg (s : State) : (s.stopClient).cfg = s.cfg := rfl
@[simp] theorem State.stopClient_started (s : State) : (s.stopClient).started = false := rfl
@[simp] theorem State.stopClient_conn (s : State) : (s.stopClient).conn = false := rfl
@[simp] theorem State.stopClient_curCmd (s : State) : (s.stopClient).curCmd = s.curCmd := rfl
@[simp] theorem State.stopClient_curCmdValid (s : State) : (s.stopClient).curCmdValid = false := rfl
@[simp] theorem State.stopClient_replyPending (s : State) : (s.stopClient).replyPending = false := rfl
@[simp] theorem State.stopClient_replySlot (s : State) : (s.stopClient).replySlot = s.replySlot := rfl
@[simp] theorem State.stopClient_replyArmedTime (s : State) : (s.stopClient).replyArmedTime = s.replyArmedTime := rfl
@[simp] theorem State.stopClient_lastFrameTime (s : State) : (s.stopClient).lastFrameTime = s.lastFrameTime := rfl
@[simp] theorem State.stopClient_events (s : State) : (s.stopClient).events = (s.noteEvent .connDown s.conn).events :=
  rfl
@[simp] theorem State.stopClient_irqEn (s : State) : (s.stopClient).irqEn = s.irqEn := rfl
@[simp] theorem State.stopClient_ownId (s : State) : (s.stopClient).ownId = s.ownId := rfl
@[simp] theorem State.stopClient_hwRev (s : State) : (s.stopClient).hwRev = s.hwRev := rfl
@[simp] theorem State.stopClient_clientTimeout (s : State) : (s.stopClient).clientTimeout = s.clientTimeout := rfl
@[simp] theorem State.stopClient_slotDuration (s : State) : (s.stopClient).slotDuration = s.slotDuration := rfl
@[simp] theorem State.stopClient_silenceWindow (s : State) : (s.stopClient).silenceWindow = s.silenceWindow := rfl
@[simp] theorem State.stopClient_claimEn (s : State) : (s.stopClient).claimEn = s.claimEn := rfl
@[simp] theorem State.stopClient_cli (s : State) : (s.stopClient).cli = s.cli := rfl
@[simp] theorem State.stopClient_slot (s : State) : (s.stopClient).slot = s.slot := rfl
@[simp] theorem State.stopClient_claim (s : State) : (s.stopClient).claim = s.claim := rfl
@[simp] theorem State.stopClient_side (s : State) : (s.stopClient).side = s.side := rfl
@[simp] theorem State.stopClient_rsp (s : State) : (s.stopClient).rsp = s.rsp := rfl
@[simp] theorem State.stopClient_inputs (s : State) : (s.stopClient).inputs = s.inputs := rfl

/-! ### `stopServer` -/

@[simp] theorem State.stopServer_cfg (s : State) : (s.stopServer).cfg = s.cfg := rfl
@[simp] theorem State.stopServer_started (s : State) : (s.stopServer).started = false := rfl
@[simp] theorem State.stopServer_conn (s : State) : (s.stopServer).conn = s.conn := rfl
@[simp] theorem State.stopServer_curCmd (s : State) : (s.stopServer).curCmd = s.curCmd := rfl
@[simp] theorem State.stopServer_curCmdValid (s : State) : (s.stopServer).curCmdValid = s.curCmdValid := rfl
@[simp] theorem State.stopServer_replyPending (s : State) : (s.stopServer).replyPending = s.replyPending := rfl
@[simp] theorem State.stopServer_replySlot (s : State) : (s.stopServer).replySlot = s.replySlot := rfl
@[simp] theorem State.stopServer_replyArmedTime (s : State) : (s.stopServer).replyArmedTime = s.replyArmedTime := rfl
@[simp] theorem State.stopServer_lastFrameTime (s : State) : (s.stopServer).lastFrameTime = s.lastFrameTime := rfl
@[simp] theorem State.stopServer_irqEn (s : State) : (s.stopServer).irqEn = s.irqEn := rfl
@[simp] theorem State.stopServer_ownId (s : State) : (s.stopServer).ownId = s.ownId := rfl
@[simp] theorem State.stopServer_hwRev (s : State) : (s.stopServer).hwRev = s.hwRev := rfl
@[simp] theorem State.stopServer_clientTimeout (s : State) : (s.stopServer).clientTimeout = s.clientTimeout := rfl
@[simp] theorem State.stopServer_slotDuration (s : State) : (s.stopServer).slotDuration = s.slotDuration := rfl
@[simp] theorem State.stopServer_silenceWindow (s : State) : (s.stopServer).silenceWindow = s.silenceWindow := rfl
@[simp] theorem State.stopServer_claimEn (s : State) : (s.stopServer).claimEn = s.claimEn := rfl
@[simp] theorem State.stopServer_cli (s : State) : (s.stopServer).cli = s.cli := rfl
@[simp] theorem State.stopServer_slot (s : State) : (s.stopServer).slot = slotTable fun k => { s.slotAt k with owner := 0, cmdValid := false } :=
  rfl
@[simp] theorem State.stopServer_claim (s : State) : (s.stopServer).claim = slotTable fun _ => Claim.cleared := rfl
@[simp] theorem State.stopServer_side (s : State) : (s.stopServer).side = s.side := rfl
@[simp] theorem State.stopServer_rsp (s : State) : (s.stopServer).rsp = s.rsp := rfl
@[simp] theorem State.stopServer_inputs (s : State) : (s.stopServer).inputs = s.inputs := rfl

/-! ### `ctick` -/

@[simp] theorem State.ctick_cfg (s : State) (now : Time) : (s.ctick now).cfg = s.cfg := rfl
@[simp] theorem State.ctick_started (s : State) (now : Time) : (s.ctick now).started = s.started := rfl
@[simp] theorem State.ctick_conn (s : State) (now : Time) : (s.ctick now).conn = (s.conn && !s.silent now) := rfl
@[simp] theorem State.ctick_curCmd (s : State) (now : Time) : (s.ctick now).curCmd = s.curCmd := rfl
@[simp] theorem State.ctick_curCmdValid (s : State) (now : Time) : (s.ctick now).curCmdValid = (s.curCmdValid && !s.silent now) :=
  rfl
@[simp] theorem State.ctick_replyPending (s : State) (now : Time) : (s.ctick now).replyPending = (s.replyPending && !s.replyDue now) :=
  rfl
@[simp] theorem State.ctick_replySlot (s : State) (now : Time) : (s.ctick now).replySlot = s.replySlot := rfl
@[simp] theorem State.ctick_replyArmedTime (s : State) (now : Time) : (s.ctick now).replyArmedTime = s.replyArmedTime :=
  rfl
@[simp] theorem State.ctick_lastFrameTime (s : State) (now : Time) : (s.ctick now).lastFrameTime = s.lastFrameTime :=
  rfl
@[simp] theorem State.ctick_events (s : State) (now : Time) : (s.ctick now).events = (s.noteEvent .connDown (s.silent now)).events :=
  rfl
@[simp] theorem State.ctick_irqEn (s : State) (now : Time) : (s.ctick now).irqEn = s.irqEn := rfl
@[simp] theorem State.ctick_ownId (s : State) (now : Time) : (s.ctick now).ownId = s.ownId := rfl
@[simp] theorem State.ctick_hwRev (s : State) (now : Time) : (s.ctick now).hwRev = s.hwRev := rfl
@[simp] theorem State.ctick_clientTimeout (s : State) (now : Time) : (s.ctick now).clientTimeout = s.clientTimeout :=
  rfl
@[simp] theorem State.ctick_slotDuration (s : State) (now : Time) : (s.ctick now).slotDuration = s.slotDuration := rfl
@[simp] theorem State.ctick_silenceWindow (s : State) (now : Time) : (s.ctick now).silenceWindow = s.silenceWindow :=
  rfl
@[simp] theorem State.ctick_claimEn (s : State) (now : Time) : (s.ctick now).claimEn = s.claimEn := rfl
@[simp] theorem State.ctick_cli (s : State) (now : Time) : (s.ctick now).cli = s.cli := rfl
@[simp] theorem State.ctick_slot (s : State) (now : Time) : (s.ctick now).slot = s.slot := rfl
@[simp] theorem State.ctick_claim (s : State) (now : Time) : (s.ctick now).claim = s.claim := rfl
@[simp] theorem State.ctick_side (s : State) (now : Time) : (s.ctick now).side = s.side := rfl
@[simp] theorem State.ctick_rsp (s : State) (now : Time) : (s.ctick now).rsp = s.rsp := rfl
@[simp] theorem State.ctick_inputs (s : State) (now : Time) : (s.ctick now).inputs = s.inputs := rfl

/-! ### `sweep` -/

@[simp] theorem State.sweep_cfg (s : State) (now : Time) : (s.sweep now).cfg = s.cfg := rfl
@[simp] theorem State.sweep_started (s : State) (now : Time) : (s.sweep now).started = s.started := rfl
@[simp] theorem State.sweep_conn (s : State) (now : Time) : (s.sweep now).conn = s.conn := rfl
@[simp] theorem State.sweep_curCmd (s : State) (now : Time) : (s.sweep now).curCmd = s.curCmd := rfl
@[simp] theorem State.sweep_curCmdValid (s : State) (now : Time) : (s.sweep now).curCmdValid = s.curCmdValid := rfl
@[simp] theorem State.sweep_replyPending (s : State) (now : Time) : (s.sweep now).replyPending = s.replyPending := rfl
@[simp] theorem State.sweep_replySlot (s : State) (now : Time) : (s.sweep now).replySlot = s.replySlot := rfl
@[simp] theorem State.sweep_replyArmedTime (s : State) (now : Time) : (s.sweep now).replyArmedTime = s.replyArmedTime :=
  rfl
@[simp] theorem State.sweep_lastFrameTime (s : State) (now : Time) : (s.sweep now).lastFrameTime = s.lastFrameTime :=
  rfl
@[simp] theorem State.sweep_events (s : State) (now : Time) : (s.sweep now).events = (s.noteEvent .clientTimeout (s.newTimeouts now != 0)).events :=
  rfl
@[simp] theorem State.sweep_irqEn (s : State) (now : Time) : (s.sweep now).irqEn = s.irqEn := rfl
@[simp] theorem State.sweep_ownId (s : State) (now : Time) : (s.sweep now).ownId = s.ownId := rfl
@[simp] theorem State.sweep_hwRev (s : State) (now : Time) : (s.sweep now).hwRev = s.hwRev := rfl
@[simp] theorem State.sweep_clientTimeout (s : State) (now : Time) : (s.sweep now).clientTimeout = s.clientTimeout :=
  rfl
@[simp] theorem State.sweep_slotDuration (s : State) (now : Time) : (s.sweep now).slotDuration = s.slotDuration := rfl
@[simp] theorem State.sweep_silenceWindow (s : State) (now : Time) : (s.sweep now).silenceWindow = s.silenceWindow :=
  rfl
@[simp] theorem State.sweep_claimEn (s : State) (now : Time) : (s.sweep now).claimEn = s.claimEn := rfl
@[simp] theorem State.sweep_slot (s : State) (now : Time) : (s.sweep now).slot = s.slot := rfl
@[simp] theorem State.sweep_claim (s : State) (now : Time) : (s.sweep now).claim = s.claim := rfl
@[simp] theorem State.sweep_side (s : State) (now : Time) : (s.sweep now).side = s.side := rfl
@[simp] theorem State.sweep_rsp (s : State) (now : Time) : (s.sweep now).rsp = s.rsp := rfl
@[simp] theorem State.sweep_inputs (s : State) (now : Time) : (s.sweep now).inputs = s.inputs := rfl

/-! ### `freeSlots` -/

@[simp] theorem State.freeSlots_cfg (s : State) : (s.freeSlots).cfg = s.cfg := rfl
@[simp] theorem State.freeSlots_started (s : State) : (s.freeSlots).started = s.started := rfl
@[simp] theorem State.freeSlots_conn (s : State) : (s.freeSlots).conn = s.conn := rfl
@[simp] theorem State.freeSlots_curCmd (s : State) : (s.freeSlots).curCmd = s.curCmd := rfl
@[simp] theorem State.freeSlots_curCmdValid (s : State) : (s.freeSlots).curCmdValid = s.curCmdValid := rfl
@[simp] theorem State.freeSlots_replyPending (s : State) : (s.freeSlots).replyPending = s.replyPending := rfl
@[simp] theorem State.freeSlots_replySlot (s : State) : (s.freeSlots).replySlot = s.replySlot := rfl
@[simp] theorem State.freeSlots_replyArmedTime (s : State) : (s.freeSlots).replyArmedTime = s.replyArmedTime := rfl
@[simp] theorem State.freeSlots_lastFrameTime (s : State) : (s.freeSlots).lastFrameTime = s.lastFrameTime := rfl
@[simp] theorem State.freeSlots_events (s : State) : (s.freeSlots).events = (s.noteEvent .slotFreed (slotIndices.any s.ownerReclaimable)).events :=
  rfl
@[simp] theorem State.freeSlots_irqEn (s : State) : (s.freeSlots).irqEn = s.irqEn := rfl
@[simp] theorem State.freeSlots_ownId (s : State) : (s.freeSlots).ownId = s.ownId := rfl
@[simp] theorem State.freeSlots_hwRev (s : State) : (s.freeSlots).hwRev = s.hwRev := rfl
@[simp] theorem State.freeSlots_clientTimeout (s : State) : (s.freeSlots).clientTimeout = s.clientTimeout := rfl
@[simp] theorem State.freeSlots_slotDuration (s : State) : (s.freeSlots).slotDuration = s.slotDuration := rfl
@[simp] theorem State.freeSlots_silenceWindow (s : State) : (s.freeSlots).silenceWindow = s.silenceWindow := rfl
@[simp] theorem State.freeSlots_claimEn (s : State) : (s.freeSlots).claimEn = s.claimEn := rfl
@[simp] theorem State.freeSlots_cli (s : State) : (s.freeSlots).cli = s.cli := rfl
@[simp] theorem State.freeSlots_claim (s : State) : (s.freeSlots).claim = s.claim := rfl
@[simp] theorem State.freeSlots_side (s : State) : (s.freeSlots).side = s.side := rfl
@[simp] theorem State.freeSlots_rsp (s : State) : (s.freeSlots).rsp = s.rsp := rfl
@[simp] theorem State.freeSlots_inputs (s : State) : (s.freeSlots).inputs = s.inputs := rfl

/-! ### `consumeCommands` -/

@[simp] theorem State.consumeCommands_cfg (s : State) : (s.consumeCommands).cfg = s.cfg := rfl
@[simp] theorem State.consumeCommands_started (s : State) : (s.consumeCommands).started = s.started := rfl
@[simp] theorem State.consumeCommands_conn (s : State) : (s.consumeCommands).conn = s.conn := rfl
@[simp] theorem State.consumeCommands_curCmd (s : State) : (s.consumeCommands).curCmd = s.curCmd := rfl
@[simp] theorem State.consumeCommands_curCmdValid (s : State) : (s.consumeCommands).curCmdValid = s.curCmdValid := rfl
@[simp] theorem State.consumeCommands_replyPending (s : State) : (s.consumeCommands).replyPending = s.replyPending :=
  rfl
@[simp] theorem State.consumeCommands_replySlot (s : State) : (s.consumeCommands).replySlot = s.replySlot := rfl
@[simp] theorem State.consumeCommands_replyArmedTime (s : State) : (s.consumeCommands).replyArmedTime = s.replyArmedTime :=
  rfl
@[simp] theorem State.consumeCommands_lastFrameTime (s : State) : (s.consumeCommands).lastFrameTime = s.lastFrameTime :=
  rfl
@[simp] theorem State.consumeCommands_events (s : State) : (s.consumeCommands).events = s.events := rfl
@[simp] theorem State.consumeCommands_irqEn (s : State) : (s.consumeCommands).irqEn = s.irqEn := rfl
@[simp] theorem State.consumeCommands_ownId (s : State) : (s.consumeCommands).ownId = s.ownId := rfl
@[simp] theorem State.consumeCommands_hwRev (s : State) : (s.consumeCommands).hwRev = s.hwRev := rfl
@[simp] theorem State.consumeCommands_clientTimeout (s : State) : (s.consumeCommands).clientTimeout = s.clientTimeout :=
  rfl
@[simp] theorem State.consumeCommands_slotDuration (s : State) : (s.consumeCommands).slotDuration = s.slotDuration :=
  rfl
@[simp] theorem State.consumeCommands_silenceWindow (s : State) : (s.consumeCommands).silenceWindow = s.silenceWindow :=
  rfl
@[simp] theorem State.consumeCommands_claimEn (s : State) : (s.consumeCommands).claimEn = s.claimEn := rfl
@[simp] theorem State.consumeCommands_cli (s : State) : (s.consumeCommands).cli = s.cli := rfl
@[simp] theorem State.consumeCommands_claim (s : State) : (s.consumeCommands).claim = s.claim := rfl
@[simp] theorem State.consumeCommands_side (s : State) : (s.consumeCommands).side = s.side := rfl
@[simp] theorem State.consumeCommands_rsp (s : State) : (s.consumeCommands).rsp = s.rsp := rfl
@[simp] theorem State.consumeCommands_inputs (s : State) : (s.consumeCommands).inputs = s.inputs := rfl

end Sys2Proof.Machine
end

