-- ==== Sys2Proof/Laws/Ops.lean ====
section
/-! SUPPORT. What each shared operation can do, said once: how an operation ends (spec/60_exceptions.md R192), the
prologue (spec/43_protocol_entity.md R140), and reads after writes of the register files (spec/10_state.md R42 to R44). -/

namespace Sys2Proof.Machine

open Sys2Proof

/-! ### Reads after writes of the register files -/

theorem State.cliAt_of_ne {s : State} {id : RobotId} (h : id ≠ 0) :
    s.cliAt id = s.cli[id.toNat - 1]'(by have := id.isLt; omega) := by
  unfold State.cliAt; rw [if_neg h]

@[simp] theorem State.cliAt_zero (s : State) : s.cliAt 0#8 = CliRecord.empty := if_pos rfl

/-- `cliAt` reads only the register file. -/
theorem State.cliAt_congr {s t : State} (h : s.cli = t.cli) (id : RobotId) : s.cliAt id = t.cliAt id := by
  unfold State.cliAt; simp only [h]

theorem State.slotAt_congr {s t : State} (h : s.slot = t.slot) (k : Fin 6) : s.slotAt k = t.slotAt k := by
  unfold State.slotAt; simp only [h]

theorem State.claimAt_congr {s t : State} (h : s.claim = t.claim) (k : Fin 6) : s.claimAt k = t.claimAt k := by
  unfold State.claimAt; simp only [h]

/-- A record just written reads back; every other record reads as before (R42). Id 0 has none. -/
theorem State.cliAt_setCli (s : State) (id j : RobotId) (r : CliRecord) (h : id ≠ 0) :
    (s.setCli id r).cliAt j = if j = id then r else s.cliAt j := by
  by_cases hj : j = 0
  · subst hj
    rw [if_neg (fun e => h e.symm)]
    exact (State.cliAt_zero _).trans (State.cliAt_zero _).symm
  · have hid : id.toNat ≠ 0 := fun e => h (BitVec.eq_of_toNat_eq (by simpa using e))
    have hjn : j.toNat ≠ 0 := fun e => hj (BitVec.eq_of_toNat_eq (by simpa using e))
    rw [State.cliAt_of_ne hj, State.cliAt_of_ne hj]
    unfold State.setCli
    simp only [if_neg h, Vector.getElem_set]
    by_cases e : j = id
    · subst e; simp
    · have : ¬ id.toNat - 1 = j.toNat - 1 := fun he => e (BitVec.eq_of_toNat_eq (by omega))
      rw [if_neg this, if_neg e]

/-- A slot-table entry just written reads back; every other entry reads as before (R43). -/
theorem State.slotAt_setSlot (s : State) (k j : Fin 6) (e : SlotEntry) :
    (s.setSlot k e).slotAt j = if j = k then e else s.slotAt j := by
  unfold State.slotAt State.setSlot
  simp only [Vector.getElem_set]
  by_cases h : j = k
  · simp [h]
  · rw [if_neg (fun he => h (Fin.ext he.symm)), if_neg h]

/-- A claim-table entry just written reads back; every other entry reads as before (R44). -/
theorem State.claimAt_setClaim (s : State) (k j : Fin 6) (c : Claim) :
    (s.setClaim k c).claimAt j = if j = k then c else s.claimAt j := by
  unfold State.claimAt State.setClaim
  simp only [Vector.getElem_set]
  by_cases h : j = k
  · simp [h]
  · rw [if_neg (fun he => h (Fin.ext he.symm)), if_neg h]

@[simp] theorem State.cliAt_noteEvent (s : State) (e : Event) (b : Bool) (id : RobotId) :
    (s.noteEvent e b).cliAt id = s.cliAt id := rfl
@[simp] theorem State.slotAt_noteEvent (s : State) (e : Event) (b : Bool) (k : Fin 6) :
    (s.noteEvent e b).slotAt k = s.slotAt k := rfl
@[simp] theorem State.claimAt_noteEvent (s : State) (e : Event) (b : Bool) (k : Fin 6) :
    (s.noteEvent e b).claimAt k = s.claimAt k := rfl
@[simp] theorem State.cliAt_setSlot (s : State) (k : Fin 6) (e : SlotEntry) (id : RobotId) :
    (s.setSlot k e).cliAt id = s.cliAt id := rfl
@[simp] theorem State.cliAt_setClaim (s : State) (k : Fin 6) (c : Claim) (id : RobotId) :
    (s.setClaim k c).cliAt id = s.cliAt id := rfl
@[simp] theorem State.slotAt_setClaim (s : State) (k j : Fin 6) (c : Claim) :
    (s.setClaim k c).slotAt j = s.slotAt j := rfl
@[simp] theorem State.claimAt_setSlot (s : State) (k j : Fin 6) (e : SlotEntry) :
    (s.setSlot k e).claimAt j = s.claimAt j := rfl
@[simp] theorem State.slotAt_setCli (s : State) (id : RobotId) (r : CliRecord) (k : Fin 6) :
    (s.setCli id r).slotAt k = s.slotAt k := State.slotAt_congr (by simp) k
@[simp] theorem State.claimAt_setCli (s : State) (id : RobotId) (r : CliRecord) (k : Fin 6) :
    (s.setCli id r).claimAt k = s.claimAt k := State.claimAt_congr (by simp) k

@[simp] theorem State.cliAt_respond (s : State) (r : Result) (id : RobotId) : (s.respond r).cliAt id = s.cliAt id := rfl
@[simp] theorem State.slotAt_respond (s : State) (r : Result) (k : Fin 6) : (s.respond r).slotAt k = s.slotAt k := rfl
@[simp] theorem State.claimAt_respond (s : State) (r : Result) (k : Fin 6) : (s.respond r).claimAt k = s.claimAt k := rfl
@[simp] theorem State.cliAt_raise (s : State) (e : Status) (id : RobotId) : (s.raise e).cliAt id = s.cliAt id := rfl
@[simp] theorem State.slotAt_raise (s : State) (e : Status) (k : Fin 6) : (s.raise e).slotAt k = s.slotAt k := rfl
@[simp] theorem State.claimAt_raise (s : State) (e : Status) (k : Fin 6) : (s.raise e).claimAt k = s.claimAt k := rfl

/-- The reset record of every id (R42). -/
@[simp] theorem State.cliAt_resetWith (cfg : Config) (id : RobotId) :
    (State.resetWith cfg).cliAt id = CliRecord.empty := by
  unfold State.cliAt
  split
  · rfl
  · simp

@[simp] theorem State.slotAt_resetWith (cfg : Config) (k : Fin 6) :
    (State.resetWith cfg).slotAt k = SlotEntry.vacant := by
  simp [State.slotAt]

@[simp] theorem State.claimAt_resetWith (cfg : Config) (k : Fin 6) :
    (State.resetWith cfg).claimAt k = Claim.cleared := by
  simp [State.claimAt]

/-! ### The slot a robot owns -/

theorem State.ownedSlot_eq_some {s : State} {id : RobotId} {k : Fin 6} (h : s.ownedSlot id = some k) :
    (s.slotAt k).owner = id := by
  have := List.find?_some h
  simpa using this

theorem State.ownedSlot_eq_none {s : State} {id : RobotId} :
    s.ownedSlot id = none ↔ ∀ k, (s.slotAt k).owner ≠ id := by
  simp [State.ownedSlot]

/-- Where no two slots have the owner `id`, its slot is the one found. -/
theorem State.ownedSlot_of_owner {s : State} {id : RobotId} {k : Fin 6} (h : (s.slotAt k).owner = id)
    (hu : ∀ j, (s.slotAt j).owner = id → j = k) : s.ownedSlot id = some k := by
  cases ho : s.ownedSlot id with
  | none => exact absurd h (State.ownedSlot_eq_none.mp ho k)
  | some j => rw [hu j (State.ownedSlot_eq_some ho)]

/-! ### The prologue -/

/-- Everything the prologue can answer (R140): the first check that fails, or nothing. -/
theorem prologue_cases (i : Instr) (s : State) :
    (wrongRole i s = true ∧ prologue i s = .error .wrongRole) ∨
    (wrongRole i s = false ∧ notStarted i s = true ∧ prologue i s = .error .notStarted) ∨
    (wrongRole i s = false ∧ notStarted i s = false ∧ operandOutOfRange i s = true ∧
      prologue i s = .error .badOperand) ∨
    (wrongRole i s = false ∧ notStarted i s = false ∧ operandOutOfRange i s = false ∧ prologue i s = .ok ()) := by
  unfold prologue
  cases wrongRole i s <;> cases notStarted i s <;> cases operandOutOfRange i s <;> simp

theorem prologue_ok {i : Instr} {s : State} (h1 : wrongRole i s = false) (h2 : notStarted i s = false)
    (h3 : operandOutOfRange i s = false) : prologue i s = .ok () := by
  simp [prologue, h1, h2, h3]

/-! ### How an operation ends -/

/-- Everything that `serve` can answer: the operation raised and only its response is new, or the prologue passed and
the body's writes and results stand together (R140, R192). -/
theorem State.serve_next {s t : State} {i : Instr} {body : Except Status (State × Result)}
    (h : s.serve i body = .next t) :
    (∃ e, (prologue i s = .error e ∨ prologue i s = .ok () ∧ body = .error e) ∧ t = s.raise e) ∨
    (∃ u r, prologue i s = .ok () ∧ body = .ok (u, r) ∧ t = u.respond r) := by
  unfold State.serve State.complete at h
  simp only [Host.Outcome.next.injEq] at h
  cases hp : prologue i s with
  | error e =>
    rw [hp] at h
    exact .inl ⟨e, .inl rfl, h.symm⟩
  | ok v =>
    cases hb : body with
    | error e => rw [hp, hb] at h; exact .inl ⟨e, .inr ⟨rfl, rfl⟩, h.symm⟩
    | ok p => rw [hp, hb] at h; exact .inr ⟨p.1, p.2, rfl, rfl, h.symm⟩

/-- The operation ends with its results. -/
theorem State.serve_ok {s u : State} {i : Instr} {body : Except Status (State × Result)} {r : Result}
    (hp : prologue i s = .ok ()) (hb : body = .ok (u, r)) : s.serve i body = .next (u.respond r) := by
  unfold State.serve State.complete; rw [hp, hb]

/-- The body raised. -/
theorem State.serve_error {s : State} {i : Instr} {body : Except Status (State × Result)} {e : Status}
    (hp : prologue i s = .ok ()) (hb : body = .error e) : s.serve i body = .next (s.raise e) := by
  unfold State.serve State.complete; rw [hp, hb]

/-- The prologue raised. -/
theorem State.serve_prologue {s : State} {i : Instr} {body : Except Status (State × Result)} {e : Status}
    (hp : prologue i s = .error e) : s.serve i body = .next (s.raise e) := by
  unfold State.serve State.complete; rw [hp]

/-! ### The control registers -/

/-- Everything a register write can do (R147): only the registers 0x02 to 0x09 can be written. -/
theorem State.csrWrite_cases {s t : State} {a : BitVec 8} {v : Half} (h : s.csrWrite a v = some t) :
    (a = 0x02 ∧ t = s.clearEvents (v.extractLsb' 0 7)) ∨
    (a = 0x03 ∧ t = { s with irqEn := v.extractLsb' 0 7 }) ∨
    (a = 0x04 ∧ t = { s with ownId := v.extractLsb' 0 8 }) ∨
    (a = 0x05 ∧ t = { s with hwRev := v.extractLsb' 0 4 }) ∨
    (a = 0x06 ∧ t = { s with clientTimeout := v }) ∨
    (a = 0x07 ∧ t = { s with slotDuration := v }) ∨
    (a = 0x08 ∧ t = { s with silenceWindow := v }) ∨
    (a = 0x09 ∧ t = { s with claimEn := v.getLsbD 0 }) := by
  have ha {n : Nat} (hn : a.toNat = n) : a = BitVec.ofNat 8 n := by rw [← hn]; simp
  unfold State.csrWrite at h
  split at h
  case h_9 => cases h
  all_goals
    next hn =>
      have := ha hn
      simp only [Option.some.injEq] at h
      simp [this, h.symm]

end Sys2Proof.Machine
end

