-- ==== Sys2Proof/Laws/Wire.lean ====
section
/-! SUPPORT. What each function of the wire formats can answer (spec/40_frame_codec.md, 41_control_frame.md,
42_reply_message.md), said once. -/

namespace Sys2Proof.Machine

open Sys2Proof

/-- `Encode` within the ceiling (R110, R111). -/
theorem encodeFrame_of_le {h : Header} {P : List Byte} (hl : P.length ≤ 117) :
    encodeFrame h P = .ok (BitVec.ofNat 8 (P.length + 2) :: h.address :: (h.port ++ h.typ) :: P) := by
  unfold encodeFrame maxFrameBytes
  rw [if_neg (by omega)]

/-- `Encode` above the ceiling (R110, R111). -/
theorem encodeFrame_of_gt {h : Header} {P : List Byte} (hl : 117 < P.length) :
    encodeFrame h P = .error .frameTooLarge := by
  unfold encodeFrame maxFrameBytes
  rw [if_pos (by omega)]

/-- Everything `Encode` can answer. -/
theorem encodeFrame_eq_ok {h : Header} {P W : List Byte} (e : encodeFrame h P = .ok W) :
    P.length ≤ 117 ∧ W = BitVec.ofNat 8 (P.length + 2) :: h.address :: (h.port ++ h.typ) :: P := by
  by_cases hl : P.length ≤ 117
  · rw [encodeFrame_of_le hl] at e
    exact ⟨hl, (Except.ok.inj e).symm⟩
  · rw [encodeFrame_of_gt (by omega)] at e
    cases e

/-- The nibbles of a header byte (R81). -/
theorem extractLsb'_hi (port typ : BitVec 4) : (port ++ typ : BitVec 8).extractLsb' 4 4 = port := by
  apply BitVec.eq_of_getLsbD_eq
  intro i hi
  simp only [BitVec.getLsbD_extractLsb', BitVec.getLsbD_append]
  rw [if_neg (by omega)]
  simp [hi, show 4 + i - 4 = i by omega]

theorem extractLsb'_lo (port typ : BitVec 4) : (port ++ typ : BitVec 8).extractLsb' 0 4 = typ := by
  apply BitVec.eq_of_getLsbD_eq
  intro i hi
  simp only [BitVec.getLsbD_extractLsb', BitVec.getLsbD_append]
  rw [if_pos (by omega)]
  simp [hi]

/-- Everything `Decode` can answer (R112). -/
theorem decodeFrame_cases (B : List Byte) :
    ((B.length < 3 ∨ (B.getD 0 0).toNat < 2) ∧ decodeFrame B = .error .frameTooShort) ∨
    (∃ len address portType rest, B = len :: address :: portType :: rest ∧ 2 ≤ len.toNat ∧
      decodeFrame B = .ok ({ address := address, port := portType.extractLsb' 4 4, typ := portType.extractLsb' 0 4 },
        rest.take (min (len.toNat - 2) rest.length))) := by
  match B with
  | [] | [_] | [_, _] => left; simp [decodeFrame]
  | len :: address :: portType :: rest =>
    by_cases h : len.toNat < 2
    · left; simp [decodeFrame, h]
    · right; exact ⟨len, address, portType, rest, rfl, by omega, by simp [decodeFrame, h]⟩

/-- `Decode` raises nothing but `FRAME_TOO_SHORT` (R113(e)). -/
theorem decodeFrame_eq_error {B : List Byte} {e : Status} (h : decodeFrame B = .error e) : e = .frameTooShort := by
  rcases decodeFrame_cases B with ⟨_, h'⟩ | ⟨_, _, _, _, _, _, h'⟩ <;> rw [h'] at h <;> simp_all

@[simp] theorem length_putMessage (B : List Byte) (b : Nat) (m : ControlMessage) :
    (putMessage B b m).length = B.length := by
  simp [putMessage]

/-- `PackCF` gives 57 bytes whatever the content (R123(c)). -/
@[simp] theorem length_packCF (F : ControlFrame) : (packCF F).length = 57 := by
  simp [packCF, slotIndices, cfBytes]

/-- Everything `UnpackCF` can answer (R121). -/
theorem unpackCF_cases (B : List Byte) :
    (B.length < 57 ∧ unpackCF B = .error .frameTooShort) ∨
    (57 ≤ B.length ∧ (readCF B).unique = false ∧ unpackCF B = .error .duplicateRecipient) ∨
    (57 ≤ B.length ∧ (readCF B).unique = true ∧ unpackCF B = .ok (readCF B)) := by
  unfold unpackCF cfBytes
  by_cases h : B.length < 57
  · left; simp [h]
  · right
    have : 57 ≤ B.length := by omega
    cases hu : (readCF B).unique <;> simp [h, this]

/-- `Unique(F)` in words (R122). -/
theorem ControlFrame.unique_iff (F : ControlFrame) :
    F.unique = true ↔ ∀ j k : Fin 6, j < k → (F.msg j).recipientId = (F.msg k).recipientId →
      (F.msg k).recipientId = 0 := by
  simp only [ControlFrame.unique, List.all_eq_true, mem_slotIndices, forall_const, idNone, Bool.not_eq_true',
    Bool.and_eq_false_iff, decide_eq_false_iff_not, beq_eq_false_iff_ne, bne_eq_false_iff_eq]
  constructor
  · intro h j k hjk he
    rcases h k j with (h | h) | h
    · exact absurd hjk h
    · exact absurd he h
    · exact h
  · intro h k j
    by_cases hjk : j.val < k.val
    · by_cases he : (F.msg j).recipientId = (F.msg k).recipientId
      · exact .inr (h j k hjk he)
      · exact .inl (.inr he)
    · exact .inl (.inl hjk)

/-- Slot `k` of a frame read from bytes (R83, R121). -/
@[simp] theorem readCF_msg (B : List Byte) (k : Fin 6) : (readCF B).msg k = getMessage B (slotStart k) := by
  simp [readCF, ControlFrame.msg]

/-- Reading a message just written gives it back. -/
theorem getMessage_putMessage_same (B : List Byte) (b : Nat) (m : ControlMessage) (h : b + 75 ≤ 8 * B.length) :
    getMessage (putMessage B b m) b = m := by
  simp (disch := (try simp only [length_putBits]) <;> omega) only [getMessage, putMessage, getBits_putBits_same,
    getBits_putBits_disjoint]

/-- Writing a message leaves every field outside its 75 positions as it was. -/
theorem getBits_putMessage_disjoint (B : List Byte) (b : Nat) (m : ControlMessage) (q u : Nat)
    (h : q + u ≤ 8 * B.length) (hd : q + u ≤ b ∨ b + 75 ≤ q) :
    getBits (putMessage B b m) q u = getBits B q u := by
  simp (disch := (try simp only [length_putBits]) <;> omega) only [putMessage, getBits_putBits_disjoint]

/-- Writing a message leaves every other message as it was. -/
theorem getMessage_putMessage_disjoint (B : List Byte) (b : Nat) (m : ControlMessage) (c : Nat)
    (h : c + 75 ≤ 8 * B.length) (hd : c + 75 ≤ b ∨ b + 75 ≤ c) :
    getMessage (putMessage B b m) c = getMessage B c := by
  simp (disch := omega) only [getMessage, getBits_putMessage_disjoint]

/-- Everything `UnpackRP` can answer (R131). -/
theorem unpackRP_cases (B : List Byte) :
    (B.length < 2 ∧ unpackRP B = .error .frameTooShort) ∨
    (∃ b0 b1 rest, B = b0 :: b1 :: rest ∧
      unpackRP B = .ok { senderId := b0, hardwareRevision := b1.extractLsb' 4 4 }) := by
  match B with
  | [] | [_] => left; simp [unpackRP]
  | b0 :: b1 :: rest => right; exact ⟨b0, b1, rest, rfl, rfl⟩

end Sys2Proof.Machine
end

