-- ==== Sys2Proof/Laws/Client.lean ====
section
/-! SUPPORT. What the client's functions can answer (spec/44_client.md R151 to R155). -/

namespace Sys2Proof.Machine

open Sys2Proof

/-- A frame that passes the client's front end (R151). -/
theorem clientFront_eq_ok {cfg : Config} {B : List Byte} {F : ControlFrame} (h : clientFront cfg B = .ok F) :
    ∃ hd P, decodeFrame B = .ok (hd, P) ∧ hd.port = cfg.portControl ∧ hd.typ = cfg.typeControl ∧
      unpackCF P = .ok F ∧ F.frameType = cfg.typeControl := by
  unfold clientFront at h
  split at h
  · cases h
  · next hd P hdec =>
    split at h
    · next hc =>
      split at h
      · cases h
      · next G hu =>
        split at h
        · next ht =>
          cases h
          simp only [forControl, Bool.and_eq_true, beq_iff_eq] at hc
          exact ⟨hd, P, hdec, hc.1, hc.2, hu, ht⟩
        · cases h
    · cases h

/-- What the client's front end raises (R151). -/
theorem clientFront_eq_error {cfg : Config} {B : List Byte} {e : Status} (h : clientFront cfg B = .error e) :
    e = .frameTooShort ∨ e = .ignored ∨ e = .duplicateRecipient := by
  unfold clientFront at h
  split at h
  · next hdec => cases h; exact .inl (decodeFrame_eq_error hdec)
  · next hd P hdec =>
    split at h
    · rcases unpackCF_cases P with ⟨_, hu⟩ | ⟨_, _, hu⟩ | ⟨_, _, hu⟩ <;> rw [hu] at h
      · cases h; exact .inl rfl
      · cases h; exact .inr (.inr rfl)
      · simp only at h
        split at h <;> cases h
        exact .inr (.inl rfl)
    · cases h; exact .inr (.inl rfl)

/-- The slot found carries the client's own, nonzero id (R152). -/
theorem matchSlot_eq_some {F : ControlFrame} {id : RobotId} {k : Fin 6} (h : matchSlot F id = some k) :
    id ≠ 0 ∧ (F.msg k).recipientId = id := by
  unfold matchSlot at h
  split at h
  · cases h
  · next hid => exact ⟨hid, by simpa using List.find?_some h⟩

/-- No slot is found exactly when the client has no id or no slot carries it (R152). -/
theorem matchSlot_eq_none {F : ControlFrame} {id : RobotId} :
    matchSlot F id = none ↔ id = 0 ∨ ∀ k, (F.msg k).recipientId ≠ id := by
  unfold matchSlot idNone
  split
  · next h => simp [h]
  · next h => rw [or_iff_right (show ¬ id = 0 from h)]; simp

/-- Where the id stands in one slot only, that slot is found (R160(a)). -/
theorem matchSlot_of_only {F : ControlFrame} {id : RobotId} {k : Fin 6} (hid : id ≠ 0)
    (hk : (F.msg k).recipientId = id) (hu : ∀ j, (F.msg j).recipientId = id → j = k) : matchSlot F id = some k := by
  cases h : matchSlot F id with
  | none =>
    rcases matchSlot_eq_none.mp h with h' | h'
    · exact absurd h' hid
    · exact absurd hk (h' k)
  | some j => rw [hu j (matchSlot_eq_some h).2]

/-- The slot chosen is one of the open slots (R155). -/
theorem chooseSlot_mem {l : List (Fin 6)} {rnd : BitVec 8} {k : Fin 6} (h : chooseSlot l rnd = some k) : k ∈ l := by
  unfold chooseSlot at h
  split at h
  · cases h; exact List.getElem_mem _
  · cases h

/-- A slot is chosen whenever one is open (R155). -/
theorem chooseSlot_isSome {l : List (Fin 6)} (rnd : BitVec 8) (h : l ≠ []) : (chooseSlot l rnd).isSome = true := by
  unfold chooseSlot
  rw [dif_pos (List.length_pos_iff.mpr h)]
  rfl

theorem mem_openSlots {F : ControlFrame} {k : Fin 6} : k ∈ openSlots F ↔ (F.msg k).recipientId = 0 := by
  simp [openSlots, idNone]

/-- The slot claimed is open, and the client may claim (R154). -/
theorem claimSlot_eq_some {s : State} {F : ControlFrame} {rnd : BitVec 8} {k : Fin 6}
    (h : claimSlot s F rnd = some k) : s.claimEn = true ∧ s.ownId ≠ 0 ∧ (F.msg k).recipientId = 0 := by
  unfold claimSlot at h
  split at h
  · next hc => exact ⟨hc.1, hc.2, mem_openSlots.mp (chooseSlot_mem h)⟩
  · cases h

/-- Everything `RXC` can do with an accepted frame (R153, R154). -/
theorem rxcAccepted_cases (s : State) (F : ControlFrame) :
    (∃ k, matchSlot F s.ownId = some k ∧ rxcAccepted s F = (s.rxcMatched F k s.side.now,
      Result.ofWord (rxcWord true false (slotBits k) (openSlots F).length true (!s.conn) false true))) ∨
    (∃ j, matchSlot F s.ownId = none ∧ claimSlot s F s.side.rnd = some j ∧
      rxcAccepted s F = ((s.rxcUnmatched s.side.now).scheduleReply j s.side.now,
        Result.ofWord (rxcWord false true (slotBits j) (openSlots F).length false false s.conn true))) ∨
    (matchSlot F s.ownId = none ∧ claimSlot s F s.side.rnd = none ∧
      rxcAccepted s F = (s.rxcUnmatched s.side.now,
        Result.ofWord (rxcWord false false 0 (openSlots F).length false false s.conn false))) := by
  unfold rxcAccepted
  cases hm : matchSlot F s.ownId with
  | some k => exact .inl ⟨k, rfl, rfl⟩
  | none =>
    cases hc : claimSlot s F s.side.rnd with
    | some j => exact .inr (.inl ⟨j, rfl, rfl, rfl⟩)
    | none => exact .inr (.inr ⟨rfl, rfl, rfl⟩)

/-- The reply frame has 5 bytes, `04 01 pt id h0`, and building it cannot raise (R158). -/
theorem replyFrame_eq (s : State) :
    replyFrame s =
      .ok [4, 1, s.cfg.portControl ++ s.cfg.typeControl, s.ownId, s.hwRev ++ 0#4] := by
  unfold replyFrame encReply
  rw [encodeFrame_of_le (by simp [packRP])]
  rfl

end Sys2Proof.Machine
end

