-- ==== Sys2Proof/Laws/Encoding.lean ====
section
/-! SUPPORT. The fields of a command word put together (spec/30_encoding.md R87). -/

namespace Sys2Proof

@[simp] theorem opField_commandWord (op : BitVec 5) (s : BitVec 3) (a : BitVec 8) (imm : Half) :
    opField (commandWord op s a imm) = op := by
  ext i hi
  simp only [opField, commandWord, BitVec.getElem_extractLsb', BitVec.getLsbD_append]
  rw [if_neg (by omega), if_neg (by omega), if_neg (by omega), BitVec.getLsbD_eq_getElem (by omega)]
  congr 1
  omega

@[simp] theorem sField_commandWord (op : BitVec 5) (s : BitVec 3) (a : BitVec 8) (imm : Half) :
    sField (commandWord op s a imm) = s := by
  ext i hi
  simp only [sField, commandWord, BitVec.getElem_extractLsb', BitVec.getLsbD_append]
  rw [if_neg (by omega), if_neg (by omega), if_pos (by omega), BitVec.getLsbD_eq_getElem (by omega)]
  congr 1
  omega

@[simp] theorem aField_commandWord (op : BitVec 5) (s : BitVec 3) (a : BitVec 8) (imm : Half) :
    aField (commandWord op s a imm) = a := by
  ext i hi
  simp only [aField, commandWord, BitVec.getElem_extractLsb', BitVec.getLsbD_append]
  rw [if_neg (by omega), if_pos (by omega), BitVec.getLsbD_eq_getElem (by omega)]
  congr 1
  omega

@[simp] theorem immField_commandWord (op : BitVec 5) (s : BitVec 3) (a : BitVec 8) (imm : Half) :
    immField (commandWord op s a imm) = imm := by
  ext i hi
  simp only [immField, commandWord, BitVec.getElem_extractLsb', BitVec.getLsbD_append]
  rw [if_pos (by omega), BitVec.getLsbD_eq_getElem (by omega)]
  congr 1
  omega

/-- A bit of a command word, by the field it stands in (R87). -/
theorem getLsbD_commandWord (op : BitVec 5) (s : BitVec 3) (a : BitVec 8) (imm : Half) (i : Nat) :
    (commandWord op s a imm).getLsbD i =
      if i < 16 then imm.getLsbD i
      else if i - 16 < 8 then a.getLsbD (i - 16)
      else if i - 16 - 8 < 3 then s.getLsbD (i - 16 - 8)
      else op.getLsbD (i - 16 - 8 - 3) := by
  simp only [commandWord, BitVec.getLsbD_append]

/-- Every command word is made of its four fields (R87). -/
theorem commandWord_fields (cw : Word) : commandWord (opField cw) (sField cw) (aField cw) (immField cw) = cw := by
  apply BitVec.eq_of_getLsbD_eq
  intro i hi
  simp only [getLsbD_commandWord, opField, sField, aField, immField, BitVec.getLsbD_extractLsb']
  have e (j : Nat) (b : Bool) (hj : j = i) (hb : b = true) : (b && cw.getLsbD j) = cw.getLsbD i := by simp [hj, hb]
  split
  · exact e _ _ (by omega) (by simpa using by omega)
  · split
    · exact e _ _ (by omega) (by simpa using by omega)
    · split <;> exact e _ _ (by omega) (by simpa using by omega)

/-- Masking a command word masks its fields. -/
theorem commandWord_and (op op' : BitVec 5) (s s' : BitVec 3) (a a' : BitVec 8) (imm imm' : Half) :
    commandWord op s a imm &&& commandWord op' s' a' imm' =
      commandWord (op &&& op') (s &&& s') (a &&& a') (imm &&& imm') := by
  apply BitVec.eq_of_getLsbD_eq
  intro i hi
  simp only [BitVec.getLsbD_and, getLsbD_commandWord]
  repeat' split
  all_goals rfl

end Sys2Proof
end

