-- ==== Sys2Proof/Laws/Server.lean ====
section
/-! SUPPORT. What the server's functions can do (spec/45_server.md R166 to R174), said once. -/

namespace Sys2Proof.Machine

open Sys2Proof

/-! ### Receiving a reply -/

/-- A reply that passes the server's front end (R166). -/
theorem serverFront_eq_ok {cfg : Config} {B : List Byte} {r : ReplyMessage} (h : serverFront cfg B = .ok r) :
    ∃ hd P, decodeFrame B = .ok (hd, P) ∧ hd.port = cfg.portControl ∧ hd.typ = cfg.typeControl ∧
      unpackRP P = .ok r ∧ r.senderId ≠ 0 := by
  unfold serverFront at h
  split at h
  · cases h
  · next hd P hdec =>
    split at h
    · next hc =>
      split at h
      · cases h
      · next q hu =>
        split at h
        · cases h
        · next hne =>
          cases h
          simp only [forControl, Bool.and_eq_true, beq_iff_eq] at hc
          exact ⟨hd, P, hdec, hc.1, hc.2, hu, hne⟩
    · cases h

/-- What the server's front end raises (R166). -/
theorem serverFront_eq_error {cfg : Config} {B : List Byte} {e : Status} (h : serverFront cfg B = .error e) :
    e = .frameTooShort ∨ e = .ignored ∨ e = .badSender := by
  unfold serverFront at h
  split at h
  · next hdec => cases h; exact .inl (decodeFrame_eq_error hdec)
  · next hd P hdec =>
    split at h
    · rcases unpackRP_cases P with ⟨_, hu⟩ | ⟨_, _, _, _, hu⟩ <;> rw [hu] at h
      · cases h; exact .inl rfl
      · simp only at h
        split at h <;> cases h
        exact .inr (.inr rfl)
    · cases h; exact .inr (.inl rfl)

/-- Everything that registering a claim can do (R167). -/
theorem State.registerClaim_cases (s : State) (id : RobotId) (rx : BitVec 3) :
    s.registerClaim id rx = (s, 0) ∨
    (∃ k, slotOf rx = some k ∧ s.ownedSlot id = none ∧ (s.slotAt k).owner = 0 ∧ (s.claimAt k).state = .none ∧
      s.registerClaim id rx = (s.setClaim k { state := .one, id := id }, 1)) ∨
    (∃ k, slotOf rx = some k ∧ s.ownedSlot id = none ∧ (s.slotAt k).owner = 0 ∧ (s.claimAt k).state = .one ∧
      (s.claimAt k).id = id ∧ s.registerClaim id rx = (s, 1)) ∨
    (∃ k, slotOf rx = some k ∧ s.ownedSlot id = none ∧ (s.slotAt k).owner = 0 ∧ (s.claimAt k).state = .one ∧
      (s.claimAt k).id ≠ id ∧ s.registerClaim id rx = (s.setClaim k { state := .collided, id := 0 }, 2)) ∨
    (∃ k, slotOf rx = some k ∧ s.ownedSlot id = none ∧ (s.slotAt k).owner = 0 ∧ (s.claimAt k).state = .collided ∧
      s.registerClaim id rx = (s, 2)) := by
  unfold State.registerClaim
  split
  · exact .inl rfl
  · next ho =>
    have ho : s.ownedSlot id = none := by simpa using ho
    split
    · exact .inl rfl
    · next k hk =>
      split
      · exact .inl rfl
      · next hown =>
        have hown : (s.slotAt k).owner = 0 := by simpa using hown
        split
        · next hc => exact .inr (.inl ⟨k, hk, ho, hown, hc, rfl⟩)
        · next hc =>
          split
          · next hid => exact .inr (.inr (.inl ⟨k, hk, ho, hown, hc, hid, rfl⟩))
          · next hid => exact .inr (.inr (.inr (.inl ⟨k, hk, ho, hown, hc, hid, rfl⟩)))
        · next hc => exact .inr (.inr (.inr (.inr ⟨k, hk, ho, hown, hc, rfl⟩)))

/-- Registering a claim writes the claim table and nothing else (R167). -/
theorem State.registerClaim_frame (s : State) (id : RobotId) (rx : BitVec 3) :
    { (s.registerClaim id rx).1 with claim := s.claim } = s := by
  rcases s.registerClaim_cases id rx with h | ⟨k, _, _, _, _, h⟩ | ⟨k, _, _, _, _, _, h⟩ | ⟨k, _, _, _, _, _, h⟩ |
    ⟨k, _, _, _, _, h⟩ <;> rw [h] <;> rfl

/-! ### Timeouts -/

/-- A sweep makes of each record what `sweepRecord` makes of it (R169). -/
theorem State.cliAt_sweep (s : State) (now : Time) (id : RobotId) :
    (s.sweep now).cliAt id = s.sweepRecord now (s.cliAt id) := by
  by_cases h : id = 0
  · subst h
    simp only [BitVec.ofNat_eq_ofNat, State.cliAt_zero]
    simp [State.sweepRecord, State.timesOut, State.expired, CliRecord.empty]
  · rw [State.cliAt_of_ne h, State.cliAt_of_ne h]
    simp [State.sweep]

@[simp] theorem State.slotAt_sweep (s : State) (now : Time) (k : Fin 6) : (s.sweep now).slotAt k = s.slotAt k := rfl
@[simp] theorem State.claimAt_sweep (s : State) (now : Time) (k : Fin 6) : (s.sweep now).claimAt k = s.claimAt k := rfl

/-- At most 255 records are newly flagged, so `NEW_TIMEOUTS` fits its 9 bits (R204(g)). -/
theorem State.newTimeouts_le (s : State) (now : Time) : s.newTimeouts now ≤ 255 := by
  unfold State.newTimeouts
  refine Nat.le_trans List.countP_le_length ?_
  simp

/-! ### Freeing, granting, assembling -/

/-- What freeing makes of each slot (R172). -/
theorem State.slotAt_freeSlots (s : State) (k : Fin 6) :
    s.freeSlots.slotAt k =
      if s.ownerReclaimable k then { s.slotAt k with owner := 0, cmdValid := false } else s.slotAt k := by
  show (State.freeSlots s).slot[k.val] = _
  simp [State.freeSlots]

@[simp] theorem State.cliAt_freeSlots (s : State) (id : RobotId) : s.freeSlots.cliAt id = s.cliAt id := rfl
@[simp] theorem State.claimAt_freeSlots (s : State) (k : Fin 6) : s.freeSlots.claimAt k = s.claimAt k := rfl

/-- A granted claim (R173). -/
theorem State.grants_iff (s : State) (k : Fin 6) :
    s.grants k = true ↔ (s.claimAt k).state = .one ∧ (s.slotAt k).owner = 0 ∧
      (s.cliAt (s.claimAt k).id).valid = true ∧ (s.cliAt (s.claimAt k).id).reclaimable = false ∧
      s.ownedSlot (s.claimAt k).id = none := by
  unfold State.grants
  simp [and_assoc]

@[simp] theorem State.cliAt_grantSlot (s : State) (k : Fin 6) (id : RobotId) :
    (s.grantSlot k).cliAt id = s.cliAt id := by
  unfold State.grantSlot; split <;> rfl

@[simp] theorem State.claimAt_grantSlot (s : State) (k j : Fin 6) : (s.grantSlot k).claimAt j = s.claimAt j := by
  unfold State.grantSlot; split <;> rfl

/-- A grant writes slot `k` and no other (R173). -/
theorem State.slotAt_grantSlot (s : State) (k j : Fin 6) :
    (s.grantSlot k).slotAt j =
      if j = k ∧ s.grants k = true then { s.slotAt k with owner := (s.claimAt k).id, cmdValid := false }
      else s.slotAt j := by
  unfold State.grantSlot
  by_cases hg : s.grants k = true
  · rw [if_pos hg, State.slotAt_setSlot]
    by_cases h : j = k <;> simp [h, hg]
  · rw [if_neg hg, if_neg (fun h => hg h.2)]

/-- One turn of the loop on slot `k`: what it makes of each slot (R173). -/
theorem slotAt_commitSlot (acc : CommitAcc) (k j : Fin 6) :
    (commitSlot acc k).state.slotAt j =
      if j = k ∧ acc.state.grants k = true then
        { acc.state.slotAt k with owner := (acc.state.claimAt k).id, cmdValid := false }
      else acc.state.slotAt j :=
  State.slotAt_grantSlot acc.state k j

/-- One turn of the loop on slot `k` clears its claim and no other (R173). -/
theorem claimAt_commitSlot (acc : CommitAcc) (k j : Fin 6) :
    (commitSlot acc k).state.claimAt j = if j = k then Claim.cleared else acc.state.claimAt j := by
  simp only [commitSlot, State.claimAt_setClaim, State.claimAt_grantSlot]

@[simp] theorem cliAt_commitSlot (acc : CommitAcc) (k : Fin 6) (id : RobotId) :
    (commitSlot acc k).state.cliAt id = acc.state.cliAt id := State.cliAt_grantSlot acc.state k id

/-- What the start of the loop has and every turn keeps, the whole loop has. -/
theorem State.commitLoop_induction {P : CommitAcc → Prop} (s : State)
    (h0 : P { state := s, assigned := [], collided := [] }) (hstep : ∀ acc k, P acc → P (commitSlot acc k)) :
    P s.commitLoop := by
  unfold State.commitLoop
  have (l : List (Fin 6)) (acc : CommitAcc) (h : P acc) : P (l.foldl commitSlot acc) := by
    induction l generalizing acc with
    | nil => exact h
    | cons k l ih => exact ih _ (hstep acc k h)
  exact this _ _ h0

/-- The loop writes the slot table and the claim table and nothing else (R173). -/
theorem State.commitLoop_frame (s : State) :
    ∃ sl cl, s.commitLoop.state = { s with slot := sl, claim := cl } := by
  refine s.commitLoop_induction (P := fun acc => ∃ sl cl, acc.state = { s with slot := sl, claim := cl })
    ⟨s.slot, s.claim, rfl⟩ ?_
  rintro ⟨st, _, _⟩ k ⟨sl, cl, h⟩
  simp only at h
  subst h
  unfold commitSlot State.grantSlot
  split <;> exact ⟨_, _, rfl⟩

@[simp] theorem State.commit_cfg (s : State) : s.commit.cfg = s.cfg := by
  obtain ⟨_, _, h⟩ := s.commitLoop_frame
  simp [State.commit, h]
@[simp] theorem State.commit_started (s : State) : s.commit.started = s.started := by
  obtain ⟨_, _, h⟩ := s.commitLoop_frame
  simp [State.commit, h]
@[simp] theorem State.commit_conn (s : State) : s.commit.conn = s.conn := by
  obtain ⟨_, _, h⟩ := s.commitLoop_frame
  simp [State.commit, h]
@[simp] theorem State.commit_curCmd (s : State) : s.commit.curCmd = s.curCmd := by
  obtain ⟨_, _, h⟩ := s.commitLoop_frame
  simp [State.commit, h]
@[simp] theorem State.commit_curCmdValid (s : State) : s.commit.curCmdValid = s.curCmdValid := by
  obtain ⟨_, _, h⟩ := s.commitLoop_frame
  simp [State.commit, h]
@[simp] theorem State.commit_replyPending (s : State) : s.commit.replyPending = s.replyPending := by
  obtain ⟨_, _, h⟩ := s.commitLoop_frame
  simp [State.commit, h]
@[simp] theorem State.commit_replySlot (s : State) : s.commit.replySlot = s.replySlot := by
  obtain ⟨_, _, h⟩ := s.commitLoop_frame
  simp [State.commit, h]
@[simp] theorem State.commit_replyArmedTime (s : State) : s.commit.replyArmedTime = s.replyArmedTime := by
  obtain ⟨_, _, h⟩ := s.commitLoop_frame
  simp [State.commit, h]
@[simp] theorem State.commit_lastFrameTime (s : State) : s.commit.lastFrameTime = s.lastFrameTime := by
  obtain ⟨_, _, h⟩ := s.commitLoop_frame
  simp [State.commit, h]
@[simp] theorem State.commit_irqEn (s : State) : s.commit.irqEn = s.irqEn := by
  obtain ⟨_, _, h⟩ := s.commitLoop_frame
  simp [State.commit, h]
@[simp] theorem State.commit_ownId (s : State) : s.commit.ownId = s.ownId := by
  obtain ⟨_, _, h⟩ := s.commitLoop_frame
  simp [State.commit, h]
@[simp] theorem State.commit_hwRev (s : State) : s.commit.hwRev = s.hwRev := by
  obtain ⟨_, _, h⟩ := s.commitLoop_frame
  simp [State.commit, h]
@[simp] theorem State.commit_clientTimeout (s : State) : s.commit.clientTimeout = s.clientTimeout := by
  obtain ⟨_, _, h⟩ := s.commitLoop_frame
  simp [State.commit, h]
@[simp] theorem State.commit_slotDuration (s : State) : s.commit.slotDuration = s.slotDuration := by
  obtain ⟨_, _, h⟩ := s.commitLoop_frame
  simp [State.commit, h]
@[simp] theorem State.commit_silenceWindow (s : State) : s.commit.silenceWindow = s.silenceWindow := by
  obtain ⟨_, _, h⟩ := s.commitLoop_frame
  simp [State.commit, h]
@[simp] theorem State.commit_claimEn (s : State) : s.commit.claimEn = s.claimEn := by
  obtain ⟨_, _, h⟩ := s.commitLoop_frame
  simp [State.commit, h]
@[simp] theorem State.commit_cli (s : State) : s.commit.cli = s.cli := by
  obtain ⟨_, _, h⟩ := s.commitLoop_frame
  simp [State.commit, h]
@[simp] theorem State.commit_side (s : State) : s.commit.side = s.side := by
  obtain ⟨_, _, h⟩ := s.commitLoop_frame
  simp [State.commit, h]
@[simp] theorem State.commit_rsp (s : State) : s.commit.rsp = s.rsp := by
  obtain ⟨_, _, h⟩ := s.commitLoop_frame
  simp [State.commit, h]
@[simp] theorem State.commit_inputs (s : State) : s.commit.inputs = s.inputs := by
  obtain ⟨_, _, h⟩ := s.commitLoop_frame
  simp [State.commit, h]

/-- `Commit` writes the slot table, the claim table and `EVENTS`, and nothing else (R173). -/
theorem State.commit_frame (s : State) :
    ∃ ev sl cl, s.commit = { s with events := ev, slot := sl, claim := cl } := by
  obtain ⟨sl, cl, h⟩ := s.commitLoop_frame
  unfold State.commit
  rw [h]
  generalize (!s.commitLoop.assigned.isEmpty) = a
  generalize (!s.commitLoop.collided.isEmpty) = c
  exact ⟨_, sl, cl, rfl⟩

/-- The loop sets no event bit; the two of `Commit` are set after it (R173). -/
theorem State.commitLoop_events (s : State) : s.commitLoop.state.events = s.events := by
  obtain ⟨_, _, h⟩ := s.commitLoop_frame
  rw [h]

@[simp] theorem State.cliAt_commit (s : State) (id : RobotId) : s.commit.cliAt id = s.cliAt id :=
  State.cliAt_congr s.commit_cli id

@[simp] theorem State.slotAt_commit (s : State) (k : Fin 6) : s.commit.slotAt k = s.commitLoop.state.slotAt k := by
  rw [State.commit, State.slotAt_noteEvent, State.slotAt_noteEvent]

/-- After `Commit` no claim is left (R173): a claim lives for one cycle. -/
@[simp] theorem State.claimAt_commit (s : State) (k : Fin 6) : s.commit.claimAt k = Claim.cleared := by
  rw [State.commit, State.claimAt_noteEvent, State.claimAt_noteEvent]
  simp only [State.commitLoop, slotIndices, List.foldl, claimAt_commitSlot]
  match k with
  | 0 | 1 | 2 | 3 | 4 | 5 => simp

/-- `Commit` grants a slot only to its single claimant, and touches no slot that has an owner (R173). -/
theorem State.slotAt_commit_cases (s : State) (k : Fin 6) :
    s.commit.slotAt k = s.slotAt k ∨
    ((s.claimAt k).state = .one ∧ (s.slotAt k).owner = 0 ∧ (s.cliAt (s.claimAt k).id).valid = true ∧
      (s.cliAt (s.claimAt k).id).reclaimable = false ∧
      s.commit.slotAt k = { s.slotAt k with owner := (s.claimAt k).id, cmdValid := false }) := by
  rw [State.slotAt_commit]
  have h := s.commitLoop_induction
    (P := fun acc =>
      (∀ id, acc.state.cliAt id = s.cliAt id) ∧
      (acc.state.claimAt k = s.claimAt k ∨ acc.state.claimAt k = Claim.cleared) ∧
      (acc.state.slotAt k = s.slotAt k ∨
        ((s.claimAt k).state = .one ∧ (s.slotAt k).owner = 0 ∧ (s.cliAt (s.claimAt k).id).valid = true ∧
          (s.cliAt (s.claimAt k).id).reclaimable = false ∧
          acc.state.slotAt k = { s.slotAt k with owner := (s.claimAt k).id, cmdValid := false })))
    ⟨fun _ => rfl, .inl rfl, .inl rfl⟩ ?_
  · exact h.2.2
  · intro acc j ⟨hc, hm, hs⟩
    refine ⟨fun id => by rw [cliAt_commitSlot, hc], ?_, ?_⟩
    · rw [claimAt_commitSlot]
      split
      · exact .inr rfl
      · exact hm
    · rw [slotAt_commitSlot]
      split
      · next hg =>
        obtain ⟨hkj, hg⟩ := hg
        subst hkj
        obtain ⟨h1, h2, h3, h4, _⟩ := (State.grants_iff _ _).mp hg
        rcases hm with hm | hm
        · rw [hm] at h1 h3 h4
          rw [hc] at h3 h4
          rcases hs with hs | ⟨_, _, _, _, hs⟩
          · rw [hs] at h2
            exact .inr ⟨h1, h2, h3, h4, by rw [hs, hm]⟩
          · exact .inr ⟨h1, by assumption, h3, h4, by rw [hs, hm]⟩
        · rw [hm] at h1; cases h1
      · exact hs

/-- What assembling leaves of each slot: the command it placed is consumed (R174). -/
theorem State.slotAt_consumeCommands (s : State) (k : Fin 6) :
    s.consumeCommands.slotAt k =
      { s.slotAt k with cmdValid := (s.slotAt k).cmdValid && (s.slotAt k).owner == 0 } := by
  show (State.consumeCommands s).slot[k.val] = _
  simp [State.consumeCommands]

@[simp] theorem State.cliAt_consumeCommands (s : State) (id : RobotId) :
    s.consumeCommands.cliAt id = s.cliAt id := rfl
@[simp] theorem State.claimAt_consumeCommands (s : State) (k : Fin 6) :
    s.consumeCommands.claimAt k = s.claimAt k := rfl

/-- Slot `k` of the next frame (R174). -/
@[simp] theorem State.nextFrame_msg (s : State) (k : Fin 6) : s.nextFrame.msg k = s.nextMessage k := by
  simp [State.nextFrame, ControlFrame.msg]

/-- Slot `k` of the next frame names the slot's owner (R165, R174). -/
@[simp] theorem State.nextMessage_recipientId (s : State) (k : Fin 6) :
    (s.nextMessage k).recipientId = (s.slotAt k).owner := by
  unfold State.nextMessage
  split
  · next h => simp [ControlMessage.zero, h]
  · split <;> rfl

/-- A control wire frame is the three bytes `3B 01 pt` and the 57 packed bytes, and building it cannot raise (R171). -/
theorem encCtl_eq (cfg : Config) (F : ControlFrame) :
    encCtl cfg F = .ok (0x3B :: 1 :: (cfg.portControl ++ cfg.typeControl) :: packCF F) := by
  unfold encCtl
  rw [encodeFrame_of_le (by simp), length_packCF]
  rfl

/-- What `STOP` leaves of each slot and claim on a server (R145). -/
theorem State.slotAt_stopServer (s : State) (k : Fin 6) :
    s.stopServer.slotAt k = { s.slotAt k with owner := 0, cmdValid := false } := by
  show (State.stopServer s).slot[k.val] = _
  simp

@[simp] theorem State.claimAt_stopServer (s : State) (k : Fin 6) : s.stopServer.claimAt k = Claim.cleared := by
  show (State.stopServer s).claim[k.val] = _
  simp

/-! ### What `BUILD` writes -/

/-- A sweep writes the status registers and `EVENTS`, and nothing else (R169). -/
theorem State.sweep_frame (s : State) (now : Time) : ∃ ev cl, s.sweep now = { s with events := ev, cli := cl } :=
  ⟨_, _, rfl⟩

/-- Freeing writes the slot table and `EVENTS`, and nothing else (R172). -/
theorem State.freeSlots_frame (s : State) : ∃ ev sl, s.freeSlots = { s with events := ev, slot := sl } := ⟨_, _, rfl⟩

/-- `BUILD` writes the status registers, the slot and claim tables and `EVENTS`, and nothing else (R171, R193). -/
theorem State.build_frame (s : State) (now : Time) :
    ∃ ev ci sl cl, (s.assigned now).consumeCommands = { s with events := ev, cli := ci, slot := sl, claim := cl } := by
  obtain ⟨ev, ci, h1⟩ := s.sweep_frame now
  obtain ⟨ev2, sl, h2⟩ := (s.sweep now).freeSlots_frame
  obtain ⟨ev3, sl3, cl, h3⟩ := (s.arbitrated now).commit_frame
  rw [State.assigned, h3, State.arbitrated, h2, h1]
  exact ⟨ev3, ci, _, cl, rfl⟩
end Sys2Proof.Machine
end

