-- ==== Sys2Proof/Laws/Exec.lean ====
section
/-! SUPPORT. What each operation can answer: its refusal, or the effect of its body (spec/43_protocol_entity.md R140,
spec/60_exceptions.md R192). Later proofs about `exec` and `step` cite these instead of unfolding the meanings. -/

namespace Sys2Proof.Machine

open Sys2Proof

/-- The body of every operation. -/
def bodyOf (i : Instr) (s : State) : Except Status (State × Result) :=
  match i with
  | .nop => nopBody s
  | .enc address port typ => encBody address port typ s
  | .dec => decBody s
  | .enccf => enccfBody s
  | .deccf => deccfBody s
  | .encrp senderId hardwareRevision => encrpBody senderId hardwareRevision s
  | .decrp => decrpBody s
  | .start => startBody s
  | .stop => stopBody s
  | .csrr csr => csrrBody csr s
  | .csrw csr data => csrwBody csr data s
  | .rxc => rxcBody s
  | .ctick => ctickBody s
  | .rxr rxSlot => rxrBody rxSlot s
  | .sweep => sweepBody s
  | .setcmd => setcmdBody s
  | .build => buildBody s
  | .rdcli id => rdcliBody id s
  | .rdslot slot => rdslotBody slot s

/-- Every operation is the prologue and then its body (R140). -/
theorem exec_eq_serve (i : Instr) (s : State) : exec i s = s.serve i (bodyOf i s) := by
  cases i <;> rfl

theorem prologue_eq_ok {i : Instr} {s : State} (h : prologue i s = .ok ()) :
    wrongRole i s = false ∧ notStarted i s = false ∧ operandOutOfRange i s = false := by
  rcases prologue_cases i s with ⟨_, h'⟩ | ⟨_, _, h'⟩ | ⟨_, _, _, h'⟩ | ⟨h1, h2, h3, _⟩
  · rw [h'] at h; cases h
  · rw [h'] at h; cases h
  · rw [h'] at h; cases h
  · exact ⟨h1, h2, h3⟩

/-- Everything an operation can answer: it raised and only its response is new, or it was served and its body's writes
and results stand together (R140, R192). -/
theorem exec_next {i : Instr} {s t : State} (h : exec i s = .next t) :
    (∃ e, (prologue i s = .error e ∨ prologue i s = .ok () ∧ bodyOf i s = .error e) ∧ t = s.raise e) ∨
    (∃ u r, prologue i s = .ok () ∧ bodyOf i s = .ok (u, r) ∧ t = u.respond r) :=
  State.serve_next (exec_eq_serve i s ▸ h)

/-- An operation whose prologue passes and whose body returns ends with the body's state and results. -/
theorem exec_of_ok {i : Instr} {s u : State} {r : Result} (h1 : wrongRole i s = false) (h2 : notStarted i s = false)
    (h3 : operandOutOfRange i s = false) (hb : bodyOf i s = .ok (u, r)) : exec i s = .next (u.respond r) := by
  rw [exec_eq_serve]; exact State.serve_ok (prologue_ok h1 h2 h3) hb

/-- An operation whose prologue passes and whose body raises. -/
theorem exec_of_error {i : Instr} {s : State} {e : Status} (h1 : wrongRole i s = false) (h2 : notStarted i s = false)
    (h3 : operandOutOfRange i s = false) (hb : bodyOf i s = .error e) : exec i s = .next (s.raise e) := by
  rw [exec_eq_serve]; exact State.serve_error (prologue_ok h1 h2 h3) hb

/-- Every operation answers a next state. -/
theorem exec_answers (i : Instr) (s : State) : ∃ t, exec i s = .next t := by
  rw [exec_eq_serve]; exact ⟨_, rfl⟩

/-! ### The bodies -/

/-- What `RXC` does with bytes its front end accepts (R156). -/
theorem rxcBody_eq_ok {s u : State} {r : Result} (h : rxcBody s = .ok (u, r)) :
    ∃ F, clientFront s.cfg s.side.bytes = .ok F ∧ rxcAccepted s F = (u, r) := by
  unfold rxcBody at h
  split at h
  · cases h
  · next F hF => exact ⟨F, hF, Except.ok.inj h⟩

/-- `CTICK` cannot raise; its state is that of `State.ctick` whether or not a reply is sent (R157). -/
theorem ctickBody_eq (s : State) :
    ∃ r, ctickBody s = .ok (s.ctick s.side.now, r) ∧
      r = if s.replyDue s.side.now = true ∧ s.ownId ≠ 0 then
          Result.ofBytes (ctickWord true (s.ctick s.side.now).replyPending (s.silent s.side.now))
            [4, 1, s.cfg.portControl ++ s.cfg.typeControl, s.ownId, s.hwRev ++ 0#4]
        else Result.ofWord (ctickWord false (s.ctick s.side.now).replyPending (s.silent s.side.now)) := by
  unfold ctickBody idNone
  rw [replyFrame_eq]
  split
  · exact ⟨_, rfl, rfl⟩
  · exact ⟨_, rfl, rfl⟩

/-- What `RXR` does with bytes its front end accepts (R166). -/
theorem rxrBody_eq_ok {rx : BitVec 3} {s u : State} {r : Result} (h : rxrBody rx s = .ok (u, r)) :
    ∃ m, serverFront s.cfg s.side.bytes = .ok m ∧ rxrAccepted s rx m = (u, r) := by
  unfold rxrBody at h
  split at h
  · cases h
  · next m hm => exact ⟨m, hm, Except.ok.inj h⟩

/-- What `SETCMD` does (R170). -/
theorem setcmdBody_eq_ok {s u : State} {r : Result} (h : setcmdBody s = .ok (u, r)) :
    ∃ k, s.ownedSlot (s.side.cf.msg 0).recipientId = some k ∧ u = s.postCommand k (s.side.cf.msg 0) ∧
      r = Result.ofWord (rwField 0 (slotBits k)) := by
  unfold setcmdBody at h
  split at h
  · cases h
  · next k hk => cases h; exact ⟨k, hk, rfl, rfl⟩

/-- `BUILD` cannot raise (R171): its frame has 60 bytes. -/
theorem buildBody_eq (s : State) :
    buildBody s = .ok ((s.assigned s.side.now).consumeCommands,
      Result.ofBytes
        (buildWord (s.sweep s.side.now).reclaimMask (maskOf (s.arbitrated s.side.now).commitLoop.assigned)
          (maskOf (s.arbitrated s.side.now).commitLoop.collided))
        (0x3B :: 1 :: (s.cfg.portControl ++ s.cfg.typeControl) :: packCF (s.assigned s.side.now).nextFrame)) := by
  unfold buildBody
  rw [encCtl_eq]

/-- What `BUILD` leaves and answers (R171). -/
theorem buildBody_eq_ok {s u : State} {r : Result} (h : buildBody s = .ok (u, r)) :
    u = (s.assigned s.side.now).consumeCommands ∧
      r = Result.ofBytes
        (buildWord (s.sweep s.side.now).reclaimMask (maskOf (s.arbitrated s.side.now).commitLoop.assigned)
          (maskOf (s.arbitrated s.side.now).commitLoop.collided))
        (0x3B :: 1 :: (s.cfg.portControl ++ s.cfg.typeControl) :: packCF (s.assigned s.side.now).nextFrame) := by
  rw [buildBody_eq] at h
  have h := Except.ok.inj h
  exact ⟨(congrArg Prod.fst h).symm, (congrArg Prod.snd h).symm⟩

/-- What `CSRW` does (R147). -/
theorem csrwBody_eq_ok {a : BitVec 8} {v : Half} {s u : State} {r : Result} (h : csrwBody a v s = .ok (u, r)) :
    s.csrWrite a v = some u ∧ r = Result.ofWord 0 := by
  unfold csrwBody at h
  split at h
  · cases h
  · next w hw => cases h; exact ⟨hw, rfl⟩

/-- The operations whose body writes no state (R65). -/
def writesNothing : Instr → Bool
  | .nop | .enc _ _ _ | .dec | .enccf | .deccf | .encrp _ _ | .decrp | .csrr _ | .rdcli _ | .rdslot _ => true
  | .start | .stop | .csrw _ _ | .rxc | .ctick | .rxr _ | .sweep | .setcmd | .build => false

/-- A body that writes no state hands on the state it was given (R65). -/
theorem bodyOf_of_writesNothing {i : Instr} {s u : State} {r : Result} (hi : writesNothing i = true)
    (h : bodyOf i s = .ok (u, r)) : u = s := by
  cases i <;> first | (cases hi; done) | skip
  all_goals simp only [bodyOf, nopBody, encBody, decBody, enccfBody, deccfBody, encrpBody, decrpBody, csrrBody,
    rdcliBody, rdslotBody] at h
  all_goals first
    | (cases h; rfl)
    | (split at h <;> cases h; rfl)

end Sys2Proof.Machine
end

