-- ==== Sys2Proof/Laws/PerInstr.lean ====
section
/-! SUPPORT. The family `NamedBits`: an operation's encoding sets no bit that the operation does not name
(spec/30_encoding.md R87, R88). One lemma per constructor of `Instr`. -/

namespace Sys2Proof.Laws.NamedBits

open Sys2Proof

/-- Every bit of the encoding of `i` that `i` does not name is 0. -/
def Statement (i : Instr) : Prop := encode i &&& namedBits i = encode i

theorem nop : Statement .nop := by unfold Statement; decide

theorem enc (address : Byte) (port typ : BitVec 4) : Statement (.enc address port typ) := by
  have h : (0#8 ++ port ++ typ) &&& 0x00FF#16 = 0#8 ++ port ++ typ := by
    ext i hi
    simp only [BitVec.getElem_and, BitVec.getElem_append]
    by_cases h1 : i < 4
    · match i, h1 with
      | 0, _ | 1, _ | 2, _ | 3, _ => simp
    · by_cases h2 : i - 4 < 4
      · have : i < 8 := by omega
        match i, this with
        | 0, _ | 1, _ | 2, _ | 3, _ | 4, _ | 5, _ | 6, _ | 7, _ => simp
      · simp [h1, h2]
  simp only [Statement, encode, namedBits, commandWord_and, BitVec.and_allOnes, BitVec.and_self]
  exact congrArg (commandWord _ _ _) h

theorem dec : Statement .dec := by unfold Statement; decide
theorem enccf : Statement .enccf := by unfold Statement; decide
theorem deccf : Statement .deccf := by unfold Statement; decide

theorem encrp (senderId : RobotId) (hardwareRevision : BitVec 4) : Statement (.encrp senderId hardwareRevision) := by
  have h : (0#12 ++ hardwareRevision) &&& 0x000F#16 = 0#12 ++ hardwareRevision := by
    ext i hi
    simp only [BitVec.getElem_and, BitVec.getElem_append]
    by_cases h1 : i < 4
    · match i, h1 with
      | 0, _ | 1, _ | 2, _ | 3, _ => simp
    · simp [h1]
  simp only [Statement, encode, namedBits, commandWord_and, BitVec.and_allOnes, BitVec.and_self]
  exact congrArg (commandWord _ _ _) h

theorem decrp : Statement .decrp := by unfold Statement; decide
theorem start : Statement .start := by unfold Statement; decide
theorem stop : Statement .stop := by unfold Statement; decide

theorem csrr (csr : BitVec 8) : Statement (.csrr csr) := by
  simp only [Statement, encode, namedBits, commandWord_and, BitVec.and_allOnes, BitVec.and_self]

theorem csrw (csr : BitVec 8) (data : Half) : Statement (.csrw csr data) := by
  simp only [Statement, encode, namedBits, commandWord_and, BitVec.and_allOnes, BitVec.and_self]

theorem rxc : Statement .rxc := by unfold Statement; decide
theorem ctick : Statement .ctick := by unfold Statement; decide

theorem rxr (rxSlot : BitVec 3) : Statement (.rxr rxSlot) := by
  simp only [Statement, encode, namedBits, commandWord_and, BitVec.and_allOnes, BitVec.and_self]

theorem sweep : Statement .sweep := by unfold Statement; decide
theorem setcmd : Statement .setcmd := by unfold Statement; decide
theorem build : Statement .build := by unfold Statement; decide

theorem rdcli (id : RobotId) : Statement (.rdcli id) := by
  simp only [Statement, encode, namedBits, commandWord_and, BitVec.and_allOnes, BitVec.and_self]

theorem rdslot (slot : BitVec 3) : Statement (.rdslot slot) := by
  simp only [Statement, encode, namedBits, commandWord_and, BitVec.and_allOnes, BitVec.and_self]

end Sys2Proof.Laws.NamedBits
end

