-- ==== Sys2Proof/Machine/Text.lean ====
section
/-! DEFINITION. The textual syntax of spec/30_encoding.md R95, as printers: a command with the operands it names (R88), a
response with the results it names (R89). It has no part in what the machine does. Where R95 fixes no base for a number,
operands of the word are written in hexadecimal and the rest in decimal; `len` is
written only where `buf` does not show it (DESIGN CHOICE, safe, log entry 15). -/

namespace Sys2Proof.Machine

open Sys2Proof

/-- One hexadecimal digit. -/
def hexDigit (n : Nat) : Char := if n < 10 then Char.ofNat (0x30 + n) else Char.ofNat (0x37 + n)

/-- The `d` hexadecimal digits of `n`, most significant first. -/
def hexDigits : (d : Nat) → (n : Nat) → List Char
  | 0, _ => []
  | d + 1, n => hexDigits d (n / 16) ++ [hexDigit (n % 16)]

/-- A number of `d` hexadecimal digits, marked `0x` (R10). -/
def hexText (d : Nat) (v : BitVec w) : List Char := '0' :: 'x' :: hexDigits d v.toNat

/-- A number in decimal (R10). -/
def decText (n : Nat) : List Char := Nat.toDigits 10 n

/-- `key=value`. -/
def keyText (key : String) (value : List Char) : List Char := key.toList ++ '=' :: value

/-- Items one after another, `sep` between them. -/
def joinText (sep : List Char) : List (List Char) → List Char
  | [] => []
  | [x] => x
  | x :: xs => x ++ sep ++ joinText sep xs

/-- Bytes as `[DE AD BE EF]`. -/
def bytesText (B : List Byte) : List Char :=
  '[' :: (joinText [' '] (B.map fun b => hexDigits 2 b.toNat) ++ [']'])

/-- `x` between braces. -/
def bracedText (x : List Char) : List Char := Char.ofNat 0x7B :: (x ++ [Char.ofNat 0x7D])

/-- A control message: id, vx, vy, vw, kp, chip, trig between braces, or `0` for `ZERO_MSG`. -/
def messageText (m : ControlMessage) : List Char :=
  if m = ControlMessage.zero then ['0']
  else bracedText (joinText [',', ' '] [decText m.recipientId.toNat, hexText 4 m.velocityX, hexText 4 m.velocityY,
    hexText 4 m.velocityW, hexText 4 m.kickPower, decText m.chipOrKick.toNat, decText m.kickTriggerMode.toNat])

/-- A control frame: its type and its six messages. -/
def frameText (F : ControlFrame) : List Char :=
  bracedText (keyText "type" (hexText 1 F.frameType) ++ [',', ' '] ++
    keyText "slots" ('[' :: (joinText [',', ' '] (F.slots.toList.map messageText) ++ [']'])))

/-- A control register by its name (R31), or by its address where there is none. -/
def csrText (a : BitVec 8) : List Char :=
  match a.toNat with
  | 0x00 => "ROLE".toList
  | 0x01 => "STATUS".toList
  | 0x02 => "EVENTS".toList
  | 0x03 => "IRQ_EN".toList
  | 0x04 => "OWN_ID".toList
  | 0x05 => "HW_REV".toList
  | 0x06 => "CLIENT_TIMEOUT".toList
  | 0x07 => "SLOT_DURATION".toList
  | 0x08 => "SILENCE_WINDOW".toList
  | 0x09 => "CTRL".toList
  | _ => hexText 2 a

/-- The operands a command names, each as `key=value` (R88, R95). -/
def operandTexts (i : Instr) (o : SideOperands) : List (List Char) :=
  let buf := (if o.tooLong then [keyText "len" (decText o.len.toNat)] else []) ++ [keyText "buf" (bytesText o.bytes)]
  let now := keyText "now" (decText o.now.toNat)
  match i with
  | .nop | .start | .stop => []
  | .enc address port typ =>
    [keyText "addr" (hexText 2 address), keyText "port" (hexText 1 port), keyText "type" (hexText 1 typ)] ++ buf
  | .dec | .deccf | .decrp => buf
  | .enccf => [keyText "cf" (frameText o.cf)]
  | .encrp id hw => [keyText "id" (decText id.toNat), keyText "hw" (hexText 1 hw)]
  | .csrr a => [keyText "csr" (csrText a)]
  | .csrw a v => [keyText "csr" (csrText a), keyText "data" (hexText 4 v)]
  | .rxc => buf ++ [now, keyText "rnd" (decText o.rnd.toNat)]
  | .ctick | .sweep | .build => [now]
  | .rxr rx => keyText "rx_slot" (decText rx.toNat) :: buf ++ [now]
  | .setcmd => [keyText "cf.slots[0]" (messageText (o.cf.msg 0))]
  | .rdcli id => [keyText "id" (decText id.toNat), now]
  | .rdslot k => [keyText "slot" (decText k.toNat)]

/-- A command as R95 writes it: `MNEMONIC key=value, key=value, ...`. -/
def commandText (i : Instr) (o : SideOperands) : List Char :=
  joinText [' '] (i.mnemonic.toList :: match operandTexts i o with
    | [] => []
    | l => [joinText [',', ' '] l])

/-- The name of a status (R190). -/
def Status.name : Status → String
  | .frameTooLarge => "FRAME_TOO_LARGE"
  | .frameTooShort => "FRAME_TOO_SHORT"
  | .duplicateRecipient => "DUPLICATE_RECIPIENT"
  | .ignored => "IGNORED"
  | .badSender => "BAD_SENDER"
  | .notStarted => "NOT_STARTED"
  | .wrongRole => "WRONG_ROLE"
  | .illegalOp => "ILLEGAL_OP"
  | .badOperand => "BAD_OPERAND"
  | .notAssigned => "NOT_ASSIGNED"

/-- A response as R95 writes it: `-> STATUS, field=value, ...`, with the response word whole as `rw` where it is not 0. -/
def responseText (r : Response) : List Char :=
  match r with
  | .raised e => "-> ".toList ++ e.name.toList
  | .ok res =>
    "-> ".toList ++ joinText [',', ' '] ("OK".toList :: (if res.word = 0 then [] else [keyText "rw" (hexText 8 res.word)])
      ++ (match res.bytes with
        | some B => [keyText "buf" (bytesText B)]
        | none => [])
      ++ (match res.cf with
        | some F => [keyText "cf" (frameText F)]
        | none => [])
      ++ (match res.time with
        | some t => [keyText "time" (decText t.toNat)]
        | none => []))

end Sys2Proof.Machine
end

