-- ==== Sys2Proof/Tests/Slice0.lean ====
section
/-! SUPPORT. The model's own tests: the refusals of WellFormed, a decoding of every operation, one step per operation
with the result that spec/95_test_vectors.md gives, what the host's two entry points answer, and for every statement
that has hypotheses a theorem that something meets them. -/

namespace Sys2Proof.Tests

set_option Elab.async false

open Sys2Proof Sys2Proof.Machine

/-! ### Small states -/

/-- The operand buffer that begins with `l`. -/
def bufOf (l : List Byte) : Vector Byte 120 := ⟨((l ++ List.replicate 120 0).take 120).toArray, by simp⟩

/-- Side operands: the bytes `l`, and the time `now`. -/
def sideOf (l : List Byte) (now : Time) : SideOperands :=
  { SideOperands.zero with len := BitVec.ofNat 7 l.length, buf := bufOf l, now := now }

/-- Side operands with the message `m` in slot 0 of the frame operand. -/
def sideMsg (m : ControlMessage) : SideOperands :=
  { SideOperands.zero with cf := { ControlFrame.zero with slots := ControlFrame.zero.slots.set 0 m } }

/-- A started server. -/
def srv : State := { State.resetWith (Config.ref .server) with started := true }

/-- A started client with id 3 and revision 0xB. -/
def cli3 : State := { State.resetWith (Config.ref .client) with started := true, ownId := 3, hwRev := 0xB }

/-- A started server with robot 3 in slot 0, robot 4 in slot 1 with a command pending, a claim of robot 5 on slot 2 and a
collision on slot 5, every record of time 1000. -/
def busy : State :=
  let rec0 : CliRecord := { valid := true, lastPacketTime := 1000, hardwareRevision := 1, reclaimable := false }
  { (((srv.setCli 3 rec0).setCli 4 rec0).setCli 5 rec0) with
    slot := #v[{ SlotEntry.vacant with owner := 3 },
      { owner := 4, cmdValid := true, cmd := { MotionCommand.zero with velocityX := 100, kickPower := 5 } },
      SlotEntry.vacant, SlotEntry.vacant, SlotEntry.vacant, SlotEntry.vacant]
    claim := #v[Claim.cleared, Claim.cleared, { state := .one, id := 5 }, Claim.cleared, Claim.cleared,
      { state := .collided, id := 0 }] }

/-- `s` with the side operands `o` sampled. -/
def withSide (s : State) (o : SideOperands) : State := { s with side := o }

/-- The frame of spec/95_test_vectors.md V10: robot 7 in slot 0, robot 3 in slot 1. -/
def frameV10 : ControlFrame :=
  { frameType := 0
    slots := #v[
      { ControlMessage.zero with recipientId := 7, velocityX := 100, velocityY := 0xFF9C, velocityW := 5 },
      { recipientId := 3, velocityX := 0x1234, velocityY := 0xFFFE, velocityW := 0x7FFF, kickPower := 0xABCD,
        chipOrKick := 1, kickTriggerMode := 2 },
      ControlMessage.zero, ControlMessage.zero, ControlMessage.zero, ControlMessage.zero] }

/-- The bytes of V10 (`CF1`). -/
def bytesCF1 : List Byte :=
  [0x00, 0x70, 0x06, 0x4F, 0xF9, 0xC0, 0x00, 0x50, 0x00, 0x00, 0x06, 0x24, 0x69, 0xFF, 0xFC, 0xFF, 0xFF, 0x57, 0x9B,
    0x80] ++ List.replicate 37 0

/-- The wire frame `W1`: the frame of V10. -/
def bytesW1 : List Byte := [0x3B, 0x01, 0x00] ++ bytesCF1

/-- The wire frame `WZ`: six open slots. -/
def bytesWZ : List Byte := [0x3B, 0x01, 0x00] ++ List.replicate 57 0

/-- The reply `R3` of robot 3, revision 0xB. -/
def bytesR3 : List Byte := [0x04, 0x01, 0x00, 0x03, 0xB0]

/-- The state a step leaves. -/
def nextOf (o : Host.Outcome State Fault Refusal) : Option State :=
  match o with
  | .next t => some t
  | .fault _ => none
  | .refused _ => none

/-- The step that accepts the command word `cw` with the side operands `o` in the state `s`. -/
def stepOn (s : State) (cw : Word) (o : SideOperands) : Option State :=
  nextOf (step { s with rsp := none, inputs := [Edge.command cw o] })

/-- The response word and bytes of an operation that ended `OK`. -/
def answerOf (s : Option State) : Option (Word × Option (List Byte)) :=
  match s.bind State.rsp with
  | some (.ok r) => some (r.word, r.bytes)
  | _ => none

/-- The status of an operation that raised. -/
def raisedOf (s : Option State) : Option Status :=
  match s.bind State.rsp with
  | some (.raised e) => some e
  | _ => none

/-! ### WellFormed refuses an ill-formed operation, check by check -/

theorem test_wf_csrr_absent_register : (Instr.csrr 0x0A).wellFormed = false := by decide
theorem test_wf_csrw_read_only_register : (Instr.csrw 0x01 0).wellFormed = false := by decide
theorem test_wf_csrw_absent_register : (Instr.csrw 0x0A 0).wellFormed = false := by decide
theorem test_wf_rdcli_id_zero : (Instr.rdcli 0).wellFormed = false := by decide
theorem test_wf_rdslot_six : (Instr.rdslot 6).wellFormed = false := by decide
theorem test_wf_accepts_the_last_values :
    (Instr.csrr 0x09).wellFormed = true ∧ (Instr.csrw 0x02 0).wellFormed = true ∧
    (Instr.rdcli 255).wellFormed = true ∧ (Instr.rdslot 5).wellFormed = true ∧ (Instr.rxr 7).wellFormed = true := by
  decide

/-! ### Decoding, from words written out bit by bit (R87, R88, R90) -/

theorem test_decode_nop : decode 0b00000_000_00000000_0000000000000000 = .ok .nop := by decide
theorem test_decode_nop_ignores_every_other_bit : decode 0b00000_111_11111111_1111111111111111 = .ok .nop := by decide
theorem test_decode_enc : decode 0b00001_000_00000001_00000000_1010_0101 = .ok (.enc 0x01 0xA 0x5) := by decide
theorem test_decode_dec : decode 0b00010_000_00000000_0000000000000000 = .ok .dec := by decide
theorem test_decode_enccf : decode 0b00011_000_00000000_0000000000000000 = .ok .enccf := by decide
theorem test_decode_deccf : decode 0b00100_000_00000000_0000000000000000 = .ok .deccf := by decide
theorem test_decode_encrp : decode 0b00101_000_00000011_000000000000_1011 = .ok (.encrp 0x03 0xB) := by decide
theorem test_decode_decrp : decode 0b00110_000_00000000_0000000000000000 = .ok .decrp := by decide
theorem test_decode_start : decode 0b01000_000_00000000_0000000000000000 = .ok .start := by decide
theorem test_decode_stop : decode 0b01001_000_00000000_0000000000000000 = .ok .stop := by decide
theorem test_decode_csrr : decode 0b01010_000_00000110_0000000000000000 = .ok (.csrr 0x06) := by decide
theorem test_decode_csrw : decode 0b01011_000_00000100_1000000000000011 = .ok (.csrw 0x04 0x8003) := by decide
theorem test_decode_rxc : decode 0b10000_000_00000000_0000000000000000 = .ok .rxc := by decide
theorem test_decode_ctick : decode 0b10001_000_00000000_0000000000000000 = .ok .ctick := by decide
theorem test_decode_rxr : decode 0b11000_101_00000000_0000000000000000 = .ok (.rxr 5) := by decide
theorem test_decode_sweep : decode 0b11001_000_00000000_0000000000000000 = .ok .sweep := by decide
theorem test_decode_setcmd : decode 0b11010_000_00000000_0000000000000000 = .ok .setcmd := by decide
theorem test_decode_build : decode 0b11011_000_00000000_0000000000000000 = .ok .build := by decide
theorem test_decode_rdcli : decode 0b11100_000_00000011_0000000000000000 = .ok (.rdcli 3) := by decide
theorem test_decode_rdslot : decode 0b11101_001_00000000_0000000000000000 = .ok (.rdslot 1) := by decide
theorem test_decode_reserved :
    decode 0x38000000 = .error (.reservedOp 0x07) ∧ decode 0xF8000000 = .error (.reservedOp 0x1F) ∧
    decode 0x60000000 = .error (.reservedOp 0x0C) ∧ decode 0xB8000000 = .error (.reservedOp 0x17) := by decide

/-! ### The host's entry points are evaluated -/

theorem test_table_word_csrw : decodeTableWord 32 0x58040003 = some (.csrw 0x04 0x0003) := by decide
theorem test_table_word_reserved : decodeTableWord 32 0x38000000 = none := by decide
theorem test_withFetchWord_runs_the_word :
    (nextOf (step (State.reset.withFetchWord 32 0x40000000))).map State.started = some true := by decide

/-! ### One step per operation (the vectors of spec/95_test_vectors.md) -/

/-- R143 -/
theorem test_nop : answerOf (stepOn srv 0x07FFFFFF SideOperands.zero) = some (0, none) := by decide +kernel
/-- R111 -/
theorem test_enc : answerOf (stepOn srv 0x080100A5 (sideOf [0xDE, 0xAD, 0xBE, 0xEF] 0)) =
    some (0, some [0x06, 0x01, 0xA5, 0xDE, 0xAD, 0xBE, 0xEF]) := by decide +kernel
/-- R112 -/
theorem test_dec : answerOf (stepOn srv 0x10000000 (sideOf [0x06, 0x01, 0xA5, 0xDE, 0xAD, 0xBE, 0xEF] 0)) =
    some (0x000100A5, some [0xDE, 0xAD, 0xBE, 0xEF]) := by decide +kernel
/-- R112: a length byte that lies low -/
theorem test_dec_length_byte_low : answerOf (stepOn srv 0x10000000 (sideOf [0x04, 0x01, 0xA5, 0x11, 0x22, 0x33] 0)) =
    some (0x000100A5, some [0x11, 0x22]) := by decide +kernel
/-- V10 -/
theorem test_enccf : answerOf (stepOn srv 0x18000000 { SideOperands.zero with cf := frameV10 }) =
    some (0, some bytesCF1) := by decide +kernel
/-- V10 backwards: the message in slot 1 -/
theorem test_deccf : unpackCF bytesCF1 = .ok frameV10 := by decide +kernel
/-- R121 -/
theorem test_deccf_short : raisedOf (stepOn srv 0x20000000 (sideOf (bytesCF1.take 56) 0)) = some .frameTooShort := by
  decide +kernel
/-- R130 -/
theorem test_encrp : answerOf (stepOn srv 0x2803000B SideOperands.zero) = some (0, some [0x03, 0xB0]) := by
  decide +kernel
/-- R131 -/
theorem test_decrp : answerOf (stepOn srv 0x30000000 (sideOf [0x03, 0xB7, 0x99] 0)) = some (0x0003000B, none) := by
  decide +kernel
/-- R144: the entity was started already -/
theorem test_start : answerOf (stepOn srv 0x40000000 SideOperands.zero) = some (0, none) := by decide +kernel
/-- R145 -/
theorem test_stop_server :
    (stepOn busy 0x48000000 SideOperands.zero).map (fun t => (t.started, (t.slotAt 1).owner, t.events)) =
      some (false, 0, 0x40) := by decide +kernel
/-- R145, V20 (c): `reply_slot` keeps its value -/
theorem test_stop_client :
    (stepOn { cli3 with conn := true, curCmdValid := true, replyPending := true, replySlot := 1 } 0x48000000
      SideOperands.zero).map (fun t => (t.status, t.events)) = some (0x0010, 0x02) := by decide +kernel
/-- R146: `CLIENT_TIMEOUT` after reset -/
theorem test_csrr : answerOf (stepOn srv 0x50060000 SideOperands.zero) = some (0x000000C8, none) := by decide +kernel
/-- R147: the data above the field are dropped -/
theorem test_csrw : (stepOn srv 0x5805FFFB SideOperands.zero).map State.hwRev = some 0xB := by decide +kernel
/-- R147: `EVENTS` is write-1-to-clear -/
theorem test_csrw_events : (stepOn { srv with events := 0x24 } 0x58020004 SideOperands.zero).map State.events =
    some 0x20 := by decide +kernel
/-- R156, V20 -/
theorem test_rxc : (answerOf (stepOn cli3 0x80000000 (sideOf bytesW1 1000)),
    (stepOn cli3 0x80000000 (sideOf bytesW1 1000)).map State.status) = (some (0x00000B85, none), some 0x001F) := by
  decide +kernel
/-- P5, step 2: a claim of the slot `openlist[0 mod 6]` -/
theorem test_rxc_claim : answerOf (stepOn cli3 0x80000000 (sideOf bytesWZ 1)) = some (0x000008C2, none) := by
  decide +kernel
/-- P2, step 6: one millisecond early -/
theorem test_ctick_early :
    answerOf (stepOn { cli3 with replyPending := true, replySlot := 1, replyArmedTime := 1000 } 0x88000000
      (sideOf [] 1001)) = some (0x00000001, none) := by decide +kernel
/-- P2, step 7 -/
theorem test_ctick_fires :
    answerOf (stepOn { cli3 with replyPending := true, replySlot := 1, replyArmedTime := 1000 } 0x88000000
      (sideOf [] 1002)) = some (0x80000000, some bytesR3) := by decide +kernel
/-- R166, V53 -/
theorem test_rxr : answerOf (stepOn srv 0xC0000000 (sideOf bytesR3 1000)) = some (0x0003030B, none) := by decide +kernel
/-- V54: sender 0 -/
theorem test_rxr_sender_zero : raisedOf (stepOn srv 0xC0000000 (sideOf [0x04, 0x01, 0x00, 0x00, 0x10] 10)) =
    some .badSender := by decide +kernel
/-- R168: exactly the timeout is not more than it -/
theorem test_sweep_at_the_limit : answerOf (stepOn busy 0xC8000000 (sideOf [] 1200)) = some (0, none) := by decide +kernel
/-- R168: three records are older, two of them own a slot -/
theorem test_sweep_past_the_limit : answerOf (stepOn busy 0xC8000000 (sideOf [] 1201)) = some (0x00000303, none) := by
  decide +kernel
/-- R170 -/
theorem test_setcmd : answerOf (stepOn busy 0xD0000000 (sideMsg { ControlMessage.zero with recipientId := 4 })) =
    some (0x00000001, none) := by decide +kernel
/-- R170: robot 9 holds no slot -/
theorem test_setcmd_not_assigned :
    raisedOf (stepOn busy 0xD0000000 (sideMsg { ControlMessage.zero with recipientId := 9 })) = some .notAssigned := by
  decide +kernel
/-- R171: slot 2 is assigned to robot 5, slot 5 collided -/
theorem test_build : (answerOf (stepOn busy 0xD8000000 (sideOf [] 1010))).map Prod.fst = some 0x80200400 := by
  decide +kernel
/-- V57: no robot is known -/
theorem test_build_six_open_slots : answerOf (stepOn srv 0xD8000000 (sideOf [] 0)) = some (0x80000000, some bytesWZ) := by
  decide +kernel
/-- R175: robot 5 holds no slot -/
theorem test_rdcli : answerOf (stepOn busy 0xE0050000 (sideOf [] 1201)) = some (0x0000070D, none) := by decide +kernel
/-- R176: robot 5 is the single claimant of slot 2 -/
theorem test_rdslot : answerOf (stepOn busy 0xEA000000 SideOperands.zero) = some (0x00050200, none) := by decide +kernel

/-! ### The textual syntax -/

/-- The example of R95. -/
theorem test_text_of_the_example :
    commandText (.enc 0x01 0xA 0x5) (sideOf [0xDE, 0xAD, 0xBE, 0xEF] 0) ++ [' '] ++
      responseText (.ok (Result.ofBytes 0 [0x06, 0x01, 0xA5, 0xDE, 0xAD, 0xBE, 0xEF])) =
    ("ENC addr=0x01, port=0xA, type=0x5, buf=[DE AD BE EF] -> OK, buf=[06 01 A5 DE AD BE EF]").toList := by
  decide +kernel

/-! ### Something meets the hypotheses of every statement

One theorem per statement with hypotheses, named after it; a statement with several clauses has one meeting each. -/

theorem serving_srv (o : SideOperands) : (withSide srv o).serving .server := ⟨rfl, rfl⟩
theorem serving_busy (o : SideOperands) : (withSide busy o).serving .server := ⟨rfl, rfl⟩
theorem serving_cli3 (o : SideOperands) : (withSide cli3 o).serving .client := ⟨rfl, rfl⟩

/-- The state `busy` is sound, whatever the sampled operands are. -/
theorem busy_serverInv (o : SideOperands) : ServerInv (withSide busy o) where
  reclaimableValid := by
    have : ∀ id : RobotId, (busy.cliAt id).reclaimable = true → (busy.cliAt id).valid = true := by decide +kernel
    exact this
  ownersDistinct := by
    have : ∀ j k : Fin 6, (busy.slotAt j).owner ≠ 0 → (busy.slotAt j).owner = (busy.slotAt k).owner → j = k := by
      decide +kernel
    exact this
  claimsOpen := by
    have : ∀ k : Fin 6, (busy.claimAt k).state ≠ .none → (busy.slotAt k).owner = 0 := by decide +kernel
    exact this
  claimantKnown := by
    have : ∀ k : Fin 6, (busy.claimAt k).state = .one →
        (busy.claimAt k).id ≠ 0 ∧ (busy.cliAt (busy.claimAt k).id).valid = true := by decide +kernel
    exact this
  ownerKnown := by
    have : ∀ k : Fin 6, (busy.slotAt k).owner ≠ 0 → (busy.cliAt (busy.slotAt k).owner).valid = true := by
      decide +kernel
    exact this
  commandOwned := by
    have : ∀ k : Fin 6, (busy.slotAt k).cmdValid = true → (busy.slotAt k).owner ≠ 0 := by decide +kernel
    exact this
  stoppedEmpty := fun h => by cases h
  claimIdIdle := by
    have : ∀ k : Fin 6, (busy.claimAt k).state ≠ .one → (busy.claimAt k).id = 0 := by decide +kernel
    exact this

/-- The state after reset is sound in its server's tables. -/
theorem reset_serverInv (cfg : Config) : ServerInv (State.resetWith cfg) := by
  constructor <;> simp [CliRecord.empty, SlotEntry.vacant, Claim.cleared]

/-- An edge that offers the word `cw` is accepted by an idle core. -/
theorem offered_command (s : State) (cw : Word) (o : SideOperands) (h : s.rsp = none) :
    State.offered { s with inputs := [Edge.command cw o] } (Edge.command cw o) [] := ⟨rfl, rfl, rfl, h⟩

theorem test_witness_EncodeOfDecodeIsTheNamedBits :
    decode 0x080100A5 = .ok (.enc 0x01 0xA 0x5) ∧ decode 0x08017FA5 = .ok (.enc 0x01 0xA 0x5) := by decide

theorem test_witness_ReservedOpCodesCompleteIllegalOp :
    (∃ op, decode 0x3FFFFFFF = .error (.reservedOp op)) ∧
    State.offered { srv with inputs := [Edge.command 0xF8000000 SideOperands.zero] }
      (Edge.command 0xF8000000 SideOperands.zero) [] ∧
    (Edge.command 0xF8000000 SideOperands.zero).cmdWord.toNat / 2 ^ 27 = 0x1F ∧
    (0x3FFFFFFF#32).toNat / 2 ^ 27 = 0x07 ∧
    decode 0x00000000 = .ok .nop ∧ 0x00000000#32 &&& namedBits .nop = 0x07FFFFFF#32 &&& namedBits .nop :=
  ⟨⟨0x07, by decide⟩, offered_command srv _ _ rfl, by decide, by decide, by decide, by decide⟩

theorem test_witness_StepRunsTheDecodedOperation :
    State.offered { srv with inputs := [Edge.command 0xC5000000 SideOperands.zero] }
      (Edge.command 0xC5000000 SideOperands.zero) [] ∧
    decode (Edge.command 0xC5000000 SideOperands.zero).cmdWord = .ok (.rxr 5) :=
  ⟨offered_command srv _ _ rfl, by decide⟩

theorem test_witness_ResetLeavesTheTableOfR52 :
    { busy with inputs := [Edge.reset] }.inputs = Edge.reset :: [] ∧ Edge.reset.rst = true := ⟨rfl, rfl⟩

theorem test_witness_ResetIsAFunctionOfTheConfiguration :
    { srv.raise .ignored with inputs := [Edge.reset, Edge.take] }.inputs = Edge.reset :: [Edge.take] ∧
    Edge.reset.rst = true := ⟨rfl, rfl⟩

theorem test_witness_OutstandingResponseHoldsCommandsBack :
    { srv.raise .ignored with inputs := [Edge.take] }.inputs = Edge.take :: [] ∧
    { srv with inputs := [Edge.take] }.inputs = Edge.take :: [] ∧
    (srv.raise .ignored).rsp ≠ none ∧ srv.rsp = none ∧ Edge.take.rst = false ∧ Edge.take.cmdValid = false :=
  ⟨rfl, rfl, by decide +kernel, rfl, rfl, rfl⟩

theorem test_witness_RaisedStatusWritesNothing :
    exec (.rdcli 0) srv = .next (srv.raise .badOperand) ∧ (srv.raise .badOperand).rsp = some (.raised .badOperand) :=
  ⟨rfl, rfl⟩

theorem test_witness_OtherRoleRaisesWrongRole :
    srv.cfg.role = .server ∧ cli3.cfg.role = .client ∧
    exec .ctick srv = .next (srv.raise .wrongRole) ∧ (srv.raise .wrongRole).rsp = some (.raised .wrongRole) :=
  ⟨rfl, rfl, rfl, rfl⟩

theorem test_witness_StoppedCoreRaisesNotStarted :
    { cli3 with started := false }.cfg.role = .client ∧ { srv with started := false }.cfg.role = .server ∧
    exec .build { srv with started := false } = .next ({ srv with started := false }.raise .notStarted) :=
  ⟨rfl, rfl, rfl⟩

theorem test_witness_OperandsOutOfRange :
    srv.serving .server ∧ 6 ≤ (6#3).toNat ∧ 6 ≤ (7#3).toNat ∧ 0x0A ≤ (0x0A#8).toNat ∧ 0x0A ≤ (0xFF#8).toNat ∧
    (srv.side.cf.msg 0).recipientId = 0 := ⟨⟨rfl, rfl⟩, by decide, by decide, by decide, by decide, rfl⟩

/-- Side operands with the length `n` and nothing in the buffer. -/
def sideLen (n : Nat) : SideOperands := { SideOperands.zero with len := BitVec.ofNat 7 n }

theorem test_witness_LengthAboveTheBufferIsBadOperand :
    120 < (withSide srv (sideLen 121)).side.len.toNat ∧ (withSide srv (sideLen 121)).serving .server ∧
    120 < (withSide cli3 (sideLen 127)).side.len.toNat ∧ (withSide cli3 (sideLen 127)).serving .client :=
  ⟨by decide, serving_srv _, by decide, serving_cli3 _⟩

theorem test_witness_StatusesOfEachOperation :
    exec .deccf (withSide srv (sideLen 56)) = .next ((withSide srv (sideLen 56)).raise .frameTooShort) ∧
    ((withSide srv (sideLen 56)).raise .frameTooShort).rsp = some (.raised .frameTooShort) := ⟨rfl, rfl⟩

/-- Every operation answers a next state; here some of them do so from the state `busy`. -/
theorem test_witness_ServerOperationsWriteOnlyTheirRow :
    (∃ t, exec .build (withSide busy (sideOf [] 1201)) = .next t ∧ t.cliAt 3 ≠ busy.cliAt 3) ∧
    (∃ t, exec (.rxr 2) (withSide busy (sideOf bytesR3 5)) = .next t ∧ t.cliAt 3 ≠ busy.cliAt 3) ∧
    (∃ t, exec .sweep (withSide busy (sideOf [] 1201)) = .next t ∧ t.events ≠ busy.events) ∧
    (∃ t, exec .setcmd (withSide busy (sideMsg { ControlMessage.zero with recipientId := 3 })) = .next t ∧
      t.slotAt 0 ≠ busy.slotAt 0) ∧
    (∃ t, exec (.rdslot 5) busy = .next t) :=
  ⟨⟨_, rfl, by decide +kernel⟩, ⟨_, rfl, by decide +kernel⟩, ⟨_, rfl, by decide +kernel⟩, ⟨_, rfl, by decide +kernel⟩,
    ⟨_, rfl⟩⟩

theorem test_witness_SharedAndClientOperationsWriteOnlyTheirRow :
    (∃ t, exec .rxc (withSide cli3 (sideOf bytesW1 1000)) = .next t ∧ t.conn ≠ cli3.conn) ∧
    (∃ t, exec .ctick (withSide { cli3 with replyPending := true } (sideOf [] 0)) = .next t ∧ t.replyPending = false) ∧
    (∃ t, exec .stop busy = .next t ∧ t.started ≠ busy.started) ∧
    (∃ t, exec (.csrw 0x09 0) srv = .next t ∧ t.claimEn ≠ srv.claimEn) ∧
    (∃ t, exec (.csrw 0x02 1) srv = .next t) ∧ (∃ t, exec (.csrw 0x0A 1) srv = .next t) :=
  ⟨⟨_, rfl, by decide +kernel⟩, ⟨_, rfl, by decide +kernel⟩, ⟨_, rfl, by decide +kernel⟩, ⟨_, rfl, by decide +kernel⟩,
    ⟨_, rfl⟩, ⟨_, rfl⟩⟩

theorem test_witness_EventBitsSayWhatHappened :
    ServerInv (withSide busy (sideOf [] 1010)) ∧ (∃ t, exec .build (withSide busy (sideOf [] 1010)) = .next t) ∧
    ∀ v, Instr.build ≠ .csrw 0x02 v :=
  ⟨busy_serverInv _, ⟨_, rfl⟩, fun _ => by simp⟩

theorem test_witness_CodecOperationsArePure : (withSide srv (sideLen 4)).cfg = (withSide busy (sideLen 4)).cfg ∧
    (withSide srv (sideLen 4)).side = (withSide busy (sideLen 4)).side := ⟨rfl, rfl⟩

theorem test_witness_UnnamedOperandsAreIgnored :
    agreeOnNamed .dec (sideOf [3, 1, 0, 9] 0) { sideOf [3, 1, 0, 9, 7] 5 with len := 4, rnd := 8 } ∧
    (∃ t, exec .dec (withSide srv (sideOf [3, 1, 0, 9] 0)) = .next t) :=
  ⟨⟨by decide, by decide +kernel⟩, ⟨_, rfl⟩⟩

theorem test_witness_IrqEnableChangesNoOperation :
    Instr.csrr 0x02 ≠ .csrr 0x03 ∧ (∀ d, Instr.csrr 0x02 ≠ .csrw 0x03 d) ∧ ∃ t, exec (.csrr 0x02) srv = .next t :=
  ⟨by decide, fun _ => by simp, ⟨_, rfl⟩⟩

theorem test_witness_EncBuildsTheWireFrame :
    (withSide srv (sideLen 0)).side.len.toNat ≤ 117 ∧ (withSide srv (sideLen 117)).side.len.toNat ≤ 117 ∧
    117 < (withSide srv (sideLen 118)).side.len.toNat ∧ 117 < (withSide srv (sideLen 127)).side.len.toNat := by decide

theorem test_witness_DecTakesTheFrameApart :
    120 < (sideLen 121).len.toNat ∧ (sideLen 120).len.toNat ≤ 120 ∧ (sideLen 2).len.toNat < 3 ∧
    (sideOf [1, 1, 0] 0).buf[0].toNat < 2 ∧ 3 ≤ (sideOf [2, 1, 0] 0).len.toNat ∧
    2 ≤ (sideOf [2, 1, 0] 0).buf[0].toNat := by decide +kernel

theorem test_witness_EncodeAndDecodeAgree :
    (List.replicate 117 (0 : Byte)).length ≤ 117 ∧ 120 < 3 + (List.replicate 118 (0 : Byte)).length ∧
    outerTooShort [0x01, 0x01, 0x00] ∧ outerTooShort [0x02, 0x01] ∧
    (bytesR3.getD 0 0).toNat + 1 = bytesR3.length ∧ bytesR3.length ≤ 120 ∧
    decodeFrame bytesR3 = .ok ({ address := 1, port := 0, typ := 0 }, [0x03, 0xB0]) :=
  ⟨by decide, by decide, .inr (by decide), .inl (by decide), by decide, by decide, by decide⟩

/-- A control frame with robot 3 in the slots 0 and 1. -/
def bytesTwice : List Byte := [0x00, 0x30] ++ List.replicate 7 0 ++ [0x00, 0x06] ++ List.replicate 46 0

/-- Robot 3 stands in two slots of `bytesTwice`. -/
theorem repeats_bytesTwice : repeatsRecipient bytesTwice := ⟨0, 1, by decide, by decide +kernel, by decide +kernel⟩

/-- No nonzero id stands in two slots of the frame V10. -/
theorem unique_bytesCF1 : ¬ repeatsRecipient bytesCF1 := by unfold repeatsRecipient; decide +kernel

theorem test_witness_DeccfReadsEveryField :
    120 < (sideLen 121).len.toNat ∧ (sideLen 56).len.toNat < 57 ∧ 57 ≤ (sideOf bytesTwice 0).len.toNat ∧
    (sideOf bytesTwice 0).len.toNat ≤ 120 ∧
    repeatsRecipient ((sideOf bytesTwice 0).buf.toList.take (sideOf bytesTwice 0).len.toNat) ∧
    57 ≤ (sideOf bytesCF1 0).len.toNat ∧ (sideOf bytesCF1 0).len.toNat ≤ 120 ∧
    ¬ repeatsRecipient ((sideOf bytesCF1 0).buf.toList.take (sideOf bytesCF1 0).len.toNat) := by
  have e1 : (sideOf bytesTwice 0).buf.toList.take (sideOf bytesTwice 0).len.toNat = bytesTwice := by decide +kernel
  have e2 : (sideOf bytesCF1 0).buf.toList.take (sideOf bytesCF1 0).len.toNat = bytesCF1 := by decide +kernel
  rw [e1, e2]
  exact ⟨by decide, by decide, by decide +kernel, by decide +kernel, repeats_bytesTwice, by decide +kernel,
    by decide +kernel, unique_bytesCF1⟩

theorem test_witness_ControlFramesSurviveTheWire :
    (∀ j k : Fin 6, j < k → (frameV10.msg j).recipientId = (frameV10.msg k).recipientId →
      (frameV10.msg k).recipientId = 0) ∧
    bytesCF1.length = 57 ∧ streamBit bytesCF1 454 = false ∧ streamBit bytesCF1 455 = false ∧
    unpackCF bytesCF1 = .ok frameV10 := by decide +kernel

theorem test_witness_ReplyMessagesPackIntoTwoBytes :
    120 < (sideLen 121).len.toNat ∧ (sideLen 1).len.toNat < 2 ∧ 2 ≤ (sideLen 2).len.toNat ∧
    (sideLen 120).len.toNat ≤ 120 := by decide

theorem test_witness_ReplyMessagesSurviveTheWire : (0xB0#8).extractLsb' 0 4 = 0#4 ∧
    unpackRP [0x03, 0xB0] = .ok { senderId := 0x03, hardwareRevision := 0xB } := by decide

theorem test_witness_PseudoOperationsAreTheirExpansions :
    exec .enccf srv = .next (srv.respond (Result.ofBytes 0 (packCF srv.side.cf))) ∧
    (Result.ofBytes 0 (packCF srv.side.cf)).bytes = some (List.replicate 57 0) ∧
    (sideOf (List.replicate 57 0) 0).bytes = List.replicate 57 0 ∧
    exec (.encrp 3 0xB) srv = .next (srv.respond (Result.ofBytes 0 [0x03, 0xB0])) ∧
    (sideOf [0x03, 0xB0] 0).bytes = [0x03, 0xB0] :=
  ⟨rfl, by decide +kernel, by decide +kernel, rfl, by decide +kernel⟩

theorem test_witness_StartIsIdempotent : srv.started = true := rfl
theorem test_witness_NopDoesNothing : (0x07FFFFFF#32).toNat / 2 ^ 27 = 0 := by decide

theorem test_witness_StopReturnsToStopped : cli3.cfg.role = .client ∧ busy.cfg.role = .server ∧
    (State.resetWith (Config.ref .server)).started = false ∧ ClientInv (State.resetWith (Config.ref .server)) ∧
    ServerInv (State.resetWith (Config.ref .server)) :=
  ⟨rfl, rfl, rfl, by constructor <;> simp, reset_serverInv _⟩

theorem test_witness_CsrrGivesTheRegister : 0x0A ≤ (0x0A#8).toNat ∧ 0x0A ≤ (0xFF#8).toNat := by decide

theorem test_witness_CsrwWritesTheRegister :
    ((0x00#8).toNat < 0x02 ∨ 0x0A ≤ (0x00#8).toNat) ∧ ((0x01#8).toNat < 0x02 ∨ 0x0A ≤ (0x01#8).toNat) ∧
    ((0x0A#8).toNat < 0x02 ∨ 0x0A ≤ (0x0A#8).toNat) := by decide

/-- The bytes an operation reads. -/
def read (o : SideOperands) : List Byte := o.buf.toList.take o.len.toNat

/-- A wire frame of the control port that holds the packed control frame `P`. -/
def wire (P : List Byte) : List Byte := [0x3B, 0x01, 0x00] ++ P

theorem test_witness_RxcDropsWhatItsFrontEndRefuses :
    (∀ o, (withSide cli3 o).serving .client) ∧
    outerTooShort (read (sideOf [0x01, 0x01, 0x00] 0)) ∧
    ((¬ outerTooShort (read (sideOf [0x3B, 0x01, 0x10] 0))) ∧ (sideOf [0x3B, 0x01, 0x10] 0).buf[2] ≠ 0#4 ++ 0#4) ∧
    ((¬ outerTooShort (read (sideOf (wire (bytesCF1.take 56)) 0))) ∧
      (sideOf (wire (bytesCF1.take 56)) 0).buf[2] = 0#4 ++ 0#4 ∧
      (payloadOf (read (sideOf (wire (bytesCF1.take 56)) 0))).length < 57) ∧
    ((¬ outerTooShort (read (sideOf (wire bytesTwice) 0))) ∧ (sideOf (wire bytesTwice) 0).buf[2] = 0#4 ++ 0#4 ∧
      57 ≤ (payloadOf (read (sideOf (wire bytesTwice) 0))).length ∧
      repeatsRecipient (payloadOf (read (sideOf (wire bytesTwice) 0)))) ∧
    ((¬ outerTooShort (read (sideOf (wire (bytesCF1.set 0 0x10)) 0))) ∧
      (sideOf (wire (bytesCF1.set 0 0x10)) 0).buf[2] = 0#4 ++ 0#4 ∧
      57 ≤ (payloadOf (read (sideOf (wire (bytesCF1.set 0 0x10)) 0))).length ∧
      (¬ repeatsRecipient (payloadOf (read (sideOf (wire (bytesCF1.set 0 0x10)) 0)))) ∧
      getBits (payloadOf (read (sideOf (wire (bytesCF1.set 0 0x10)) 0))) 0 4 ≠ 0) ∧
    ((¬ outerTooShort (read (sideOf bytesW1 0))) ∧ (sideOf bytesW1 0).buf[2] = 0#4 ++ 0#4 ∧ 57 ≤ (payloadOf (read (sideOf bytesW1 0))).length ∧
      (¬ repeatsRecipient (payloadOf (read (sideOf bytesW1 0)))) ∧ getBits (payloadOf (read (sideOf bytesW1 0))) 0 4 = 0) := by
  have h : payloadOf (read (sideOf (wire bytesTwice) 0)) = bytesTwice := by decide +kernel
  have h1 : payloadOf (read (sideOf bytesW1 0)) = bytesCF1 := by decide +kernel
  rw [h, h1]
  unfold outerTooShort
  refine ⟨serving_cli3, by decide +kernel, ⟨by decide +kernel, by decide +kernel⟩,
    ⟨by decide +kernel, by decide +kernel, by decide +kernel⟩, ⟨by decide +kernel, by decide +kernel, by decide +kernel,
      repeats_bytesTwice⟩,
    ⟨by decide +kernel, by decide +kernel, by decide +kernel, ?_, by decide +kernel⟩,
    ⟨by decide +kernel, by decide +kernel, by decide +kernel, unique_bytesCF1, by decide +kernel⟩⟩
  unfold repeatsRecipient
  decide +kernel

theorem test_witness_RxcOwnIdFound :
    (withSide cli3 (sideOf bytesW1 1000)).serving .client ∧ (sideOf bytesW1 1000).len.toNat ≤ 120 ∧
    clientFront cli3.cfg (sideOf bytesW1 1000).bytes = .ok frameV10 ∧ cli3.ownId ≠ 0 ∧
    (frameV10.msg 1).recipientId = cli3.ownId :=
  ⟨serving_cli3 _, by decide +kernel, by decide +kernel, by decide, by decide⟩

theorem test_witness_RxcOwnIdNotFound :
    (withSide cli3 (sideOf bytesWZ 1)).serving .client ∧ (sideOf bytesWZ 1).len.toNat ≤ 120 ∧
    clientFront cli3.cfg (sideOf bytesWZ 1).bytes = .ok ControlFrame.zero ∧
    (∀ k, (ControlFrame.zero.msg k).recipientId ≠ cli3.ownId) ∧ cli3.claimEn = true ∧ cli3.ownId ≠ 0 ∧
    (([0, 1, 2, 3, 4, 5] : List (Fin 6)).filter fun j => (ControlFrame.zero.msg j).recipientId = 0)[255 % 6]? = some 3 ∧
    { cli3 with claimEn := false }.claimEn = false ∧ { cli3 with ownId := 0 }.ownId = 0 :=
  ⟨serving_cli3 _, by decide +kernel, by decide +kernel, by decide +kernel, rfl, by decide, by decide +kernel, rfl, rfl⟩

theorem test_witness_CtickFiresTheReplyAndChecksSilence :
    let s := withSide { cli3 with replyPending := true, replySlot := 5, slotDuration := 0xFFFF } (sideOf [] 327675)
    s.serving .client ∧
    (s.replyPending = true ∧ s.replySlot.toNat * s.slotDuration.toNat ≤ (s.side.now - s.replyArmedTime).toNat) ∧
    s.ownId ≠ 0 ∧
    ¬ (s.replySlot.toNat * s.slotDuration.toNat ≤ ((327674 : Time) - s.replyArmedTime).toNat) :=
  ⟨⟨rfl, rfl⟩, by decide +kernel, by decide +kernel, by decide +kernel⟩

/-- A started client with no current command and the reply slot 0 has the invariants of its flags. -/
theorem clientInv_of_started {s : State} (h : s.started = true) (hc : s.curCmdValid = false) (hr : s.replySlot = 0) :
    ClientInv s :=
  ⟨fun _ => h, fun hv => absurd (hc.symm.trans hv) Bool.false_ne_true, fun _ => h, by rw [hr]; decide⟩

/-- One change of each row of the table: up by a frame that names robot 3, down by one that does not, and down one
millisecond past a silence window of 5. -/
theorem test_witness_ClientChangesStateOnlyByTheTable :
    let up : State := { cli3 with conn := true }
    let quiet : State := { cli3 with conn := true, silenceWindow := 5, lastFrameTime := 0xFFFFFFFF }
    cli3.cfg.role = .client ∧ ClientInv (State.resetWith (Config.ref .client)) ∧
    (∀ o, ClientInv (withSide cli3 o) ∧ ClientInv (withSide up o) ∧ ClientInv (withSide quiet o)) ∧
    (∃ t, exec .start (State.resetWith (Config.ref .client)) = .next t ∧ t.started = true) ∧
    (∃ t, exec .stop up = .next t ∧ t.started = false ∧ t.conn = false) ∧
    (∃ t, exec .rxc (withSide cli3 (sideOf bytesW1 1000)) = .next t ∧ t.conn ≠ cli3.conn) ∧
    (∃ t, exec .rxc (withSide up (sideOf bytesWZ 1000)) = .next t ∧ t.conn ≠ up.conn) ∧
    (∃ t, exec .ctick (withSide quiet (sideOf [] 5)) = .next t ∧ t.conn ≠ quiet.conn) ∧
    (∃ t, exec .ctick (withSide quiet (sideOf [] 4)) = .next t ∧ t.conn = quiet.conn) :=
  ⟨rfl, by constructor <;> simp,
    fun _ => ⟨clientInv_of_started rfl rfl rfl, clientInv_of_started rfl rfl rfl, clientInv_of_started rfl rfl rfl⟩,
    ⟨_, rfl, rfl⟩, ⟨_, rfl, rfl, rfl⟩, ⟨_, rfl, by decide +kernel⟩, ⟨_, rfl, by decide +kernel⟩,
    ⟨_, rfl, by decide +kernel⟩, ⟨_, rfl, by decide +kernel⟩⟩

theorem test_witness_SentReplyNamesItsRobotOnce :
    ∃ t r, exec .ctick (withSide { cli3 with replyPending := true } (sideOf [] 0)) = .next t ∧ t.rsp = some r ∧
      r.owedSend = some bytesR3 := ⟨_, _, rfl, rfl, by decide +kernel⟩

theorem test_witness_RxrDropsWhatItsFrontEndRefuses :
    (∀ o, (withSide srv o).serving .server) ∧
    outerTooShort (read (sideOf [0x04, 0x01] 0)) ∧
    ((¬ outerTooShort (read (sideOf [0x04, 0x01, 0x10, 0x03, 0xB0] 0))) ∧
      (sideOf [0x04, 0x01, 0x10, 0x03, 0xB0] 0).buf[2] ≠ 0#4 ++ 0#4) ∧
    ((¬ outerTooShort (read (sideOf [0x03, 0x01, 0x00, 0x03] 0))) ∧
      (payloadOf (read (sideOf [0x03, 0x01, 0x00, 0x03] 0))).length < 2) ∧
    ((¬ outerTooShort (read (sideOf [0x04, 0x01, 0x00, 0x00, 0x10] 0))) ∧
      2 ≤ (payloadOf (read (sideOf [0x04, 0x01, 0x00, 0x00, 0x10] 0))).length ∧
      (sideOf [0x04, 0x01, 0x00, 0x00, 0x10] 0).buf[3] = 0) ∧
    ((¬ outerTooShort (read (sideOf bytesR3 0))) ∧ 2 ≤ (payloadOf (read (sideOf bytesR3 0))).length ∧
      (sideOf bytesR3 0).buf[3] ≠ 0) := by
  unfold outerTooShort
  exact ⟨serving_srv, by decide +kernel, by decide +kernel, by decide +kernel, by decide +kernel, by decide +kernel⟩

/-- The reply `R3`, decoded. -/
def replyR3 : ReplyMessage := { senderId := 3, hardwareRevision := 0xB }

/-- Robot 3 claims slot 5 of `srv`, no slot of `busy`, where it owns one, and no slot 6; robot 5 claims slots 2 and 5 of
`busy`, where it is the claimant and where a collision stands. -/
theorem test_witness_RxrRefreshesTheSender :
    (∀ o, (withSide srv o).serving .server ∧ (withSide busy o).serving .server) ∧
    (sideOf bytesR3 1000).len.toNat ≤ 120 ∧ serverFront srv.cfg (sideOf bytesR3 1000).bytes = .ok replyR3 ∧
    (∃ r, serverFront busy.cfg (sideOf [0x04, 0x01, 0x00, 0x05, 0x10] 0).bytes = .ok r ∧ r.senderId = 5) ∧
    ((5 : Fin 6).val = (5#3).toNat ∧ (srv.slotAt 5).owner = 0 ∧ ∀ j : Fin 6, (srv.slotAt j).owner ≠ replyR3.senderId) ∧
    (busy.slotAt 0).owner = replyR3.senderId ∧ (∀ k : Fin 6, k.val ≠ (6#3).toNat) ∧
    (∀ j : Fin 6, (busy.slotAt j).owner ≠ 5) ∧
    ((busy.slotAt 2).owner = 0 ∧ (busy.claimAt 2).state = .one ∧ (busy.claimAt 2).id = 5) ∧
    ((busy.slotAt 5).owner = 0 ∧ (busy.claimAt 5).state = .collided) :=
  ⟨fun o => ⟨serving_srv o, serving_busy o⟩, by decide +kernel, by decide +kernel, ⟨_, rfl, by decide +kernel⟩,
    by decide +kernel, by decide +kernel, by decide, by decide +kernel, by decide +kernel, by decide +kernel⟩

/-- Each clause: an owner and an unknown slot; an owned slot; no claimant; the same claimant; another; a collision. -/
theorem test_witness_RxrNotesAtMostOneClaimant :
    serverFront srv.cfg (sideOf bytesR3 1000).bytes = .ok replyR3 ∧
    (∃ t w, exec (.rxr 2) (withSide srv (sideOf bytesR3 1000)) = .next t ∧ t.rsp = some (.ok (Result.ofWord w))) ∧
    (busy.slotAt 0).owner = replyR3.senderId ∧ 6 ≤ (6#3).toNat ∧ (busy.slotAt 1).owner ≠ 0 ∧
    (∀ j : Fin 6, (srv.slotAt j).owner ≠ replyR3.senderId) ∧ (srv.slotAt 2).owner = 0 ∧ (srv.claimAt 2).state = .none ∧
    (((srv.setClaim 2 { state := .one, id := 3 }).claimAt 2).state = .one ∧
      ((srv.setClaim 2 { state := .one, id := 3 }).claimAt 2).id = replyR3.senderId) ∧
    ((busy.claimAt 2).state = .one ∧ (busy.claimAt 2).id ≠ replyR3.senderId) ∧ (busy.claimAt 5).state = .collided :=
  ⟨by decide +kernel, ⟨_, _, rfl, rfl⟩, by decide +kernel, by decide, by decide +kernel, by decide +kernel,
    by decide +kernel, by decide +kernel, by decide +kernel, by decide +kernel, by decide +kernel⟩

theorem test_witness_SweepFlagsTheSilentRobots : (withSide busy (sideOf [] 1201)).serving .server := serving_busy _

theorem test_witness_TimeoutIsStrictlyMoreThanTheLimit :
    (∀ o, (withSide busy o).serving .server) ∧ (busy.cliAt 3).valid = true ∧ (busy.cliAt 3).reclaimable = false ∧
    (withSide busy (sideOf [] 1201)).side.now = (busy.cliAt 3).lastPacketTime + busy.clientTimeout.setWidth 32 + 1 ∧
    (withSide busy (sideOf [] 1200)).side.now = (busy.cliAt 3).lastPacketTime + busy.clientTimeout.setWidth 32 ∧
    busy.clientTimeout ≠ 0 ∧
    (withSide busy (sideOf [] 1199)).side.now = (busy.cliAt 3).lastPacketTime + busy.clientTimeout.setWidth 32 - 1 :=
  ⟨serving_busy, by decide +kernel, by decide +kernel, by decide +kernel, by decide +kernel, by decide, by decide +kernel⟩

theorem test_witness_SetcmdPostsToTheOwnersSlot :
    (∀ o, (withSide busy o).serving .server) ∧ ((sideMsg ControlMessage.zero).cf.msg 0).recipientId = 0 ∧
    (∀ k : Fin 6, (busy.slotAt k).owner ≠
      ((sideMsg { ControlMessage.zero with recipientId := 9 }).cf.msg 0).recipientId) ∧
    (∀ j : Fin 6, (busy.slotAt j).owner =
      ((sideMsg { ControlMessage.zero with recipientId := 4 }).cf.msg 0).recipientId ↔ j = 1) :=
  ⟨serving_busy, by decide +kernel, by decide +kernel, by decide +kernel⟩

/-- At 1010 the owners are live, at 1201 they are not. -/
theorem test_witness_BuildFreesTheSlotsOfSilentRobots :
    (∀ o, (withSide busy o).serving .server ∧ ServerInv (withSide busy o)) ∧ (busy.slotAt 0).owner ≠ 0 ∧
    busy.liveAt 1200 (busy.slotAt 0).owner ∧ (¬ busy.liveAt 1201 (busy.slotAt 0).owner) ∧ (busy.slotAt 2).owner = 0 := by
  unfold State.liveAt State.tooOld
  exact ⟨fun o => ⟨serving_busy o, busy_serverInv o⟩, by decide +kernel, by decide +kernel, by decide +kernel,
    by decide +kernel⟩

/-- Slot 2 is granted, slot 3 is not, slot 5 collided. -/
theorem test_witness_BuildGrantsTheUncontestedClaims :
    (∀ o, (withSide busy o).serving .server ∧ ServerInv (withSide busy o)) ∧
    ((busy.claimAt 2).state = .one ∧ busy.liveAt 1010 (busy.claimAt 2).id ∧
      (∀ j : Fin 6, (busy.slotAt j).owner ≠ (busy.claimAt 2).id) ∧
      ∀ j : Fin 6, j < 2 → ¬ ((busy.claimAt j).state = .one ∧ (busy.claimAt j).id = (busy.claimAt 2).id)) ∧
    ((busy.claimAt 3).state ≠ .one ∧ (busy.slotAt 3).owner = 0) ∧ (busy.claimAt 5).state = .collided := by
  unfold State.liveAt State.tooOld
  exact ⟨fun o => ⟨serving_busy o, busy_serverInv o⟩, by decide +kernel, by decide +kernel, by decide +kernel⟩

theorem test_witness_BuildSendsTheNextFrame :
    (∀ o, (withSide busy o).serving .server ∧ ServerInv (withSide busy o)) ∧ (busy.slotAt 1).cmdValid = true ∧
    (busy.slotAt 0).cmdValid = false ∧ (busy.slotAt 0).owner ≠ 0 :=
  ⟨fun o => ⟨serving_busy o, busy_serverInv o⟩, by decide +kernel, by decide +kernel, by decide +kernel⟩

theorem test_witness_EveryBuiltFrameIsAccepted :
    (withSide busy (sideOf [] 1010)).serving .server ∧ ServerInv (withSide busy (sideOf [] 1010)) ∧
    (Config.ref .client).portControl = busy.cfg.portControl ∧ (Config.ref .client).typeControl = busy.cfg.typeControl :=
  ⟨serving_busy _, busy_serverInv _, rfl, rfl⟩

theorem test_witness_SlotOwnershipChanges :
    ∃ t, exec .build (withSide busy (sideOf [] 1010)) = .next t ∧ (t.slotAt 2).owner ≠ (busy.slotAt 2).owner :=
  ⟨_, rfl, by decide +kernel⟩

theorem test_witness_RecordsAreNeverDeleted :
    ∃ t, exec (.rxr 6) (withSide busy (sideOf bytesR3 5)) = .next t ∧ (busy.cliAt 3).valid = true ∧
      t.cliAt 3 ≠ busy.cliAt 3 := ⟨_, rfl, by decide +kernel, by decide +kernel⟩

theorem test_witness_RdcliReadsTheRecord :
    busy.cfg.role = .server ∧ (4 : RobotId) ≠ 0 ∧ (∀ j : Fin 6, (busy.slotAt j).owner = 4 ↔ j = 1) ∧
    (∀ k : Fin 6, (busy.slotAt k).owner ≠ 5) := ⟨rfl, by decide, by decide +kernel, by decide +kernel⟩

theorem test_witness_RdslotReadsTheSlot :
    busy.cfg.role = .server ∧ 6 ≤ (6#3).toNat ∧ (5#3).toNat = (5 : Fin 6).val := ⟨rfl, by decide, by decide⟩

theorem test_witness_EveryStepKeepsTheStateSound :
    ∃ t, Inv (State.resetWith (Config.ref .client)) ∧
      step { State.resetWith (Config.ref .client) with inputs := [Edge.command 0x40000000 SideOperands.zero] } = .next t :=
  ⟨_, ⟨by constructor <;> simp, reset_serverInv _, by constructor <;> simp⟩, rfl⟩

/-- The frame that `BUILD` at 1010 sends from `busy`. -/
def builtFrame : List Byte :=
  [0x3B, 0x01, 0x00] ++ packCF { frameType := 0, slots := (slotTable fun k =>
    if k = 0 then { ControlMessage.zero with recipientId := 3 }
    else if k = 1 then { ControlMessage.zero with recipientId := 4, velocityX := 100, kickPower := 5 }
    else if k = 2 then { ControlMessage.zero with recipientId := 5 } else ControlMessage.zero) }

theorem test_witness_BuiltFrameReachesItsRobot :
    ∃ t r, (withSide busy (sideOf [] 1010)).serving .server ∧ ServerInv (withSide busy (sideOf [] 1010)) ∧
      exec .build (withSide busy (sideOf [] 1010)) = .next t ∧ t.rsp = some r ∧
      (withSide { cli3 with ownId := 4 } (sideOf builtFrame 7)).serving .client ∧
      r.owedSend = some (sideOf builtFrame 7).bytes ∧ (t.slotAt 1).owner = 4 :=
  ⟨_, _, serving_busy _, busy_serverInv _, rfl, rfl, ⟨rfl, rfl⟩, by decide +kernel, by decide +kernel⟩

theorem test_witness_SentReplyReachesTheServer :
    ∃ t r, exec .ctick (withSide { cli3 with replyPending := true } (sideOf [] 0)) = .next t ∧ t.rsp = some r ∧
      (withSide srv (sideOf bytesR3 9)).serving .server ∧ srv.cfg.portControl = cli3.cfg.portControl ∧
      srv.cfg.typeControl = cli3.cfg.typeControl ∧ r.owedSend = some (sideOf bytesR3 9).bytes :=
  ⟨_, _, rfl, rfl, serving_srv _, rfl, rfl, by decide +kernel⟩

end Sys2Proof.Tests
end

section
/-! SUPPORT. What a step and a served operation can leave, said once: the branches of one rising edge (spec/10_state.md
R47 to R49), and the state each operation's body leaves (spec/60_exceptions.md R192, R193). -/

namespace Sys2Proof.Machine

open Sys2Proof

/-! ### One rising edge (R47 to R49) -/

theorem step_of_inputs {s : State} {e : Edge} {rest : List Edge} (h : s.inputs = e :: rest) :
    step s = stepEdge e { s with inputs := rest } := by
  unfold step; rw [h]

theorem stepEdge_of_rst {e : Edge} {s : State} (h : e.rst = true) : stepEdge e s = .next s.resetEdge := by
  unfold stepEdge; rw [if_pos h]

theorem stepEdge_of_waiting {e : Edge} {s : State} (hrst : e.rst = false) (hrsp : s.rsp ≠ none) :
    stepEdge e s = .next { s with rsp := if e.rspReady then none else s.rsp } := by
  have hv : s.rspValid = true := Option.isSome_iff_ne_none.mpr hrsp
  unfold stepEdge
  rw [if_neg (by simp [hrst]), if_pos hv]
  cases e.rspReady <;> rfl

theorem stepEdge_of_command {e : Edge} {s : State} (hrst : e.rst = false) (hrsp : s.rsp = none)
    (hc : e.cmdValid = true) : stepEdge e s = runCommand e.cmdWord (s.accept e) := by
  unfold stepEdge State.rspValid
  simp [hrst, hrsp, hc]

theorem stepEdge_of_idle {e : Edge} {s : State} (hrst : e.rst = false) (hrsp : s.rsp = none)
    (hc : e.cmdValid = false) : stepEdge e s = .next s := by
  unfold stepEdge State.rspValid
  simp [hrst, hrsp, hc]

/-- Everything a step can answer: the reset state, the end of an operation that ran on the state with new sampled
operands, or the old state with other channels. -/
theorem step_cases {s t : State} (h : step s = .next t) :
    (∃ inp, t = { State.resetWith s.cfg with inputs := inp }) ∨
    (∃ i inp o, exec i { s with inputs := inp, side := o } = .next t) ∨
    (∃ inp o r, t = { s with inputs := inp, side := o, rsp := r }) := by
  cases hin : s.inputs with
  | nil =>
    unfold step at h
    rw [hin] at h
    exact .inr (.inr ⟨s.inputs, s.side, s.rsp, (Host.Outcome.next.inj h).symm⟩)
  | cons e rest =>
    rw [step_of_inputs hin] at h
    cases hrst : e.rst with
    | true =>
      rw [stepEdge_of_rst hrst] at h
      exact .inl ⟨rest, (Host.Outcome.next.inj h).symm⟩
    | false =>
      by_cases hrsp : s.rsp = none
      · cases hc : e.cmdValid with
        | false =>
          rw [stepEdge_of_idle hrst (by exact hrsp) hc] at h
          exact .inr (.inr ⟨rest, s.side, s.rsp, (Host.Outcome.next.inj h).symm⟩)
        | true =>
          rw [stepEdge_of_command hrst (by exact hrsp) hc] at h
          unfold runCommand at h
          split at h
          · next i _ => exact .inr (.inl ⟨i, rest, e.side, h⟩)
          · exact .inr (.inr ⟨rest, e.side, _, (Host.Outcome.next.inj h).symm⟩)
      · rw [stepEdge_of_waiting hrst (by exact hrsp)] at h
        exact .inr (.inr ⟨rest, s.side, _, (Host.Outcome.next.inj h).symm⟩)

/-! ### What an operation leaves (R192, R193) -/

/-- An operation that belongs to the role `r` and needs `started` passes its prologue only when the core serves `r`. -/
theorem serving_of_prologue {i : Instr} {s : State} {r : Role} (h : prologue i s = .ok ())
    (hr : servedBy i = some r) (hn : needsStarted i = true) : s.serving r := by
  obtain ⟨hw, hns, _⟩ := prologue_eq_ok h
  refine ⟨?_, ?_⟩
  · have hw : r = s.cfg.role := by simpa [wrongRole, hr] using hw
    exact hw.symm
  · simpa [notStarted, hn] using hns

/-- `Effect s i u`: the operation `i`, run in `s`, may leave the state `u`, its response apart. One constructor per
kind of write; `unchanged` covers the operations that write nothing and those that raised, and `BUILD` never raises once it
is served (R171). -/
inductive Effect (s : State) : Instr → State → Prop
  | unchanged {i : Instr} (h : ¬ (i = .build ∧ s.serving .server)) : Effect s i s
  | start : Effect s .start { s with started := true }
  | stopClient (hr : s.cfg.role = .client) : Effect s .stop s.stopClient
  | stopServer (hr : s.cfg.role = .server) : Effect s .stop s.stopServer
  | csrw {a : BitVec 8} {v : Half} {u : State} (h : s.csrWrite a v = some u) : Effect s (.csrw a v) u
  | rxcMatched {F : ControlFrame} {k : Fin 6} (hs : s.serving .client) : Effect s .rxc (s.rxcMatched F k s.side.now)
  | rxcClaimed {j : Fin 6} (hs : s.serving .client) :
      Effect s .rxc ((s.rxcUnmatched s.side.now).scheduleReply j s.side.now)
  | rxcUnmatched (hs : s.serving .client) : Effect s .rxc (s.rxcUnmatched s.side.now)
  | ctick (hs : s.serving .client) : Effect s .ctick (s.ctick s.side.now)
  | rxr {rx : BitVec 3} {m : ReplyMessage} (hs : s.serving .server) (hf : serverFront s.cfg s.side.bytes = .ok m) :
      Effect s (.rxr rx) ((s.recordReply m s.side.now).registerClaim m.senderId rx).1
  | sweep (hs : s.serving .server) : Effect s .sweep (s.sweep s.side.now)
  | setcmd {k : Fin 6} (hs : s.serving .server) (hid : (s.slotAt k).owner ≠ 0) :
      Effect s .setcmd (s.postCommand k (s.side.cf.msg 0))
  | build (hs : s.serving .server) : Effect s .build (s.assigned s.side.now).consumeCommands

/-- A body that returns leaves one of the effects. -/
theorem effect_of_body {i : Instr} {s u : State} {r : Result} (hp : prologue i s = .ok ())
    (hb : bodyOf i s = .ok (u, r)) : Effect s i u := by
  cases hw : writesNothing i with
  | true =>
    rw [bodyOf_of_writesNothing hw hb]
    exact .unchanged (fun h => by rw [h.1] at hw; cases hw)
  | false =>
    cases i
    case nop | enc | dec | enccf | deccf | encrp | decrp | csrr | rdcli | rdslot => cases hw
    case start => cases hb; exact .start
    case stop =>
      simp only [bodyOf, stopBody] at hb
      split at hb <;> cases hb
      · next hr => exact .stopClient hr
      · next hr => exact .stopServer hr
    case csrw => exact .csrw (csrwBody_eq_ok hb).1
    case rxc =>
      have hs := serving_of_prologue hp rfl rfl
      obtain ⟨F, _, hF⟩ := rxcBody_eq_ok hb
      rcases rxcAccepted_cases s F with ⟨k, _, h⟩ | ⟨j, _, _, h⟩ | ⟨_, _, h⟩ <;> cases hF.symm.trans h
      · exact .rxcMatched hs
      · exact .rxcClaimed hs
      · exact .rxcUnmatched hs
    case ctick =>
      obtain ⟨r', h, _⟩ := ctickBody_eq s
      cases h.symm.trans hb
      exact .ctick (serving_of_prologue hp rfl rfl)
    case rxr =>
      obtain ⟨m, hm, h⟩ := rxrBody_eq_ok hb
      cases h
      exact .rxr (serving_of_prologue hp rfl rfl) hm
    case sweep =>
      have hu : s.sweep s.side.now = u := congrArg Prod.fst (Except.ok.inj hb)
      exact hu ▸ .sweep (serving_of_prologue hp rfl rfl)
    case setcmd =>
      obtain ⟨k, hk, rfl, _⟩ := setcmdBody_eq_ok hb
      obtain ⟨_, _, hid⟩ := prologue_eq_ok hp
      refine .setcmd (serving_of_prologue hp rfl rfl) ?_
      rw [State.ownedSlot_eq_some hk]
      simpa [operandOutOfRange] using hid
    case build =>
      have hb : buildBody s = .ok (u, r) := hb
      obtain ⟨rfl, _⟩ := buildBody_eq_ok hb
      exact .build (serving_of_prologue hp rfl rfl)

/-- Everything an operation can leave: one of the effects, and a response. -/
theorem exec_effect {i : Instr} {s t : State} (h : exec i s = .next t) :
    ∃ u r, Effect s i u ∧ t = { u with rsp := r } := by
  rcases exec_next h with ⟨e, he, rfl⟩ | ⟨u, r, hp, hb, rfl⟩
  · refine ⟨s, _, .unchanged ?_, rfl⟩
    rintro ⟨rfl, hrole, hstarted⟩
    rcases he with hp | ⟨_, hb⟩
    · have hok : prologue .build s = .ok () :=
        prologue_ok (by simp [wrongRole, servedBy, hrole]) (by simp [notStarted, hstarted]) rfl
      cases hok.symm.trans hp
    · cases (buildBody_eq s).symm.trans hb
  · exact ⟨u, _, effect_of_body hp hb, rfl⟩

/-! ### What the writes leave alone -/

/-- A register write changes `EVENTS` and the seven control registers, and nothing else (R147). -/
theorem State.csrWrite_frame {s u : State} {a : BitVec 8} {v : Half} (h : s.csrWrite a v = some u) :
    ∃ ev ie oi hw ct sd sw ce, u = { s with
      events := ev, irqEn := ie, ownId := oi, hwRev := hw, clientTimeout := ct, slotDuration := sd,
      silenceWindow := sw, claimEn := ce } := by
  rcases State.csrWrite_cases h with ⟨_, rfl⟩ | ⟨_, rfl⟩ | ⟨_, rfl⟩ | ⟨_, rfl⟩ | ⟨_, rfl⟩ | ⟨_, rfl⟩ | ⟨_, rfl⟩ |
    ⟨_, rfl⟩ <;> exact ⟨_, _, _, _, _, _, _, _, rfl⟩

/-- Only the write of `EVENTS` changes `EVENTS` (R147). -/
theorem State.csrWrite_events {s u : State} {a : BitVec 8} {v : Half} (h : s.csrWrite a v = some u) (ha : a ≠ 0x02) :
    u.events = s.events := by
  rcases State.csrWrite_cases h with ⟨h2, _⟩ | ⟨_, rfl⟩ | ⟨_, rfl⟩ | ⟨_, rfl⟩ | ⟨_, rfl⟩ | ⟨_, rfl⟩ | ⟨_, rfl⟩ |
    ⟨_, rfl⟩
  · exact absurd h2 ha
  all_goals rfl

theorem State.setCli_frame (s : State) (id : RobotId) (r : CliRecord) :
    ∃ ci, s.setCli id r = { s with cli := ci } := by
  unfold State.setCli
  split <;> exact ⟨_, rfl⟩

/-- `RXR` changes the status registers, the claim table and `EVENTS`, and nothing else (R166, R167). -/
theorem State.rxr_frame (s : State) (m : ReplyMessage) (now : Time) (rx : BitVec 3) :
    ∃ ci cl, ((s.recordReply m now).registerClaim m.senderId rx).1 =
      { s with events := (s.recordReply m now).events, cli := ci, claim := cl } := by
  obtain ⟨ci, hci⟩ := s.setCli_frame m.senderId (m.record now)
  have hclaim := (s.recordReply m now).registerClaim_frame m.senderId rx
  have hrec : s.recordReply m now = { s with events := (s.recordReply m now).events, cli := ci } := by
    unfold State.recordReply; rw [hci]; rfl
  generalize ((s.recordReply m now).registerClaim m.senderId rx).1 = u at hclaim
  refine ⟨ci, u.claim, ?_⟩
  calc u = { ({ u with claim := (s.recordReply m now).claim } : State) with claim := u.claim } := rfl
    _ = { s.recordReply m now with claim := u.claim } := by rw [hclaim]
    _ = _ := by rw [hrec]

end Sys2Proof.Machine
end

section
/-! PROOFS. The steps of the channels and reset (spec/10_state.md R47 to R52): O5, O6, O8, O57. -/

namespace Sys2Proof.Machine

open Sys2Proof

/-- Settles O5: the branch of `stepEdge` for an offered command, and the decoder's answer. -/
theorem stepRunsTheDecodedOperation : Obligations.StepRunsTheDecodedOperation := by
  unfold Obligations.StepRunsTheDecodedOperation
  rintro s e rest i ⟨hin, hrst, hc, hrsp⟩ hdec
  rw [step_of_inputs hin, stepEdge_of_command hrst (by exact hrsp) hc, runCommand, hdec]
  rfl

/-- Settles O6: the reset edge gives `State.resetWith`, whose fields are the table. -/
theorem resetLeavesTheTableOfR52 : Obligations.ResetLeavesTheTableOfR52 := by
  unfold Obligations.ResetLeavesTheTableOfR52
  intro after
  have hreset (cfg : Config) : after (State.resetWith cfg) cfg := by
    refine ⟨rfl, rfl, rfl, rfl, rfl, rfl, rfl, rfl, rfl, rfl, rfl, rfl, rfl, rfl, rfl, rfl, rfl, ?_, ?_, ?_⟩
    · intro id; rw [State.cliAt_resetWith]; rfl
    · intro k; rw [State.slotAt_resetWith]; rfl
    · intro k; rw [State.claimAt_resetWith]; rfl
  refine ⟨fun s e rest hin hrst => ⟨{ State.resetWith s.cfg with inputs := rest }, ?_, hreset s.cfg⟩, hreset _⟩
  rw [step_of_inputs hin, stepEdge_of_rst hrst]
  rfl

/-- Settles O8: the branches of `stepEdge` for a core that waits and for an idle one. -/
theorem outstandingResponseHoldsCommandsBack : Obligations.OutstandingResponseHoldsCommandsBack := by
  unfold Obligations.OutstandingResponseHoldsCommandsBack
  intro s e rest hin hrst
  rw [step_of_inputs hin]
  exact ⟨fun hrsp => stepEdge_of_waiting hrst hrsp, fun hrsp hc => stepEdge_of_idle hrst hrsp hc⟩

theorem clientInv_resetWith (cfg : Config) : ClientInv (State.resetWith cfg) where
  connStarted := by simp
  cmdConn := by simp
  pendingStarted := by simp
  replySlotRange := by simp

theorem serverInv_resetWith (cfg : Config) : ServerInv (State.resetWith cfg) where
  reclaimableValid := by simp [CliRecord.empty]
  ownersDistinct := by simp [SlotEntry.vacant]
  claimsOpen := by simp [SlotEntry.vacant]
  claimantKnown := by simp [Claim.cleared]
  ownerKnown := by simp [SlotEntry.vacant]
  commandOwned := by simp [SlotEntry.vacant]
  stoppedEmpty := by simp [SlotEntry.vacant, Claim.cleared]
  claimIdIdle := by simp [Claim.cleared]

theorem roleInv_resetWith (cfg : Config) : RoleInv (State.resetWith cfg) where
  serverClientState _ := ⟨rfl, rfl, rfl, rfl, rfl, rfl, rfl⟩
  clientServerState _ := ⟨rfl, rfl, rfl⟩

theorem inv_resetWith (cfg : Config) : Inv (State.resetWith cfg) :=
  ⟨clientInv_resetWith cfg, serverInv_resetWith cfg, roleInv_resetWith cfg⟩

/-- Settles O57: each of the three parts of the invariant holds of the reset values, whatever the configuration. -/
theorem resetIsSound : Obligations.ResetIsSound := by
  unfold Obligations.ResetIsSound
  exact ⟨inv_resetWith, inv_resetWith Config.strap⟩

end Sys2Proof.Machine
end

section
/-! PROOFS. The invariant (spec/10_state.md R23, R25, R42, R45, R202) under every effect of an operation, and so under
every step: O58. -/

namespace Sys2Proof.Machine

open Sys2Proof

/-! ### What each part of the invariant reads -/

/-- The client's flags: all that `ClientInv` reads. -/
def State.clientFlags (s : State) : Bool × Bool × Bool × Bool × BitVec 3 :=
  (s.started, s.conn, s.curCmdValid, s.replyPending, s.replySlot)

/-- The server's tables and the lifecycle bit: all that `ServerInv` reads. -/
def State.serverTables (s : State) : Bool × Vector CliRecord 255 × Vector SlotEntry 6 × Vector Claim 6 :=
  (s.started, s.cli, s.slot, s.claim)

theorem ClientInv.congr {s t : State} (h : ClientInv s) (ht : t.clientFlags = s.clientFlags) : ClientInv t := by
  simp only [State.clientFlags, Prod.mk.injEq] at ht
  obtain ⟨hs, hc, hv, hp, hr⟩ := ht
  constructor
  · rw [hs, hc]; exact h.connStarted
  · rw [hv, hc]; exact h.cmdConn
  · rw [hs, hp]; exact h.pendingStarted
  · rw [hr]; exact h.replySlotRange

theorem ServerInv.congr {s t : State} (h : ServerInv s) (ht : t.serverTables = s.serverTables) : ServerInv t := by
  simp only [State.serverTables, Prod.mk.injEq] at ht
  obtain ⟨hs, hcli, hslot, hclaim⟩ := ht
  have hcli (id) : t.cliAt id = s.cliAt id := State.cliAt_congr hcli id
  have hslot (k) : t.slotAt k = s.slotAt k := State.slotAt_congr hslot k
  have hclaim (k) : t.claimAt k = s.claimAt k := State.claimAt_congr hclaim k
  constructor <;> simp only [hs, hcli, hslot, hclaim]
  · exact h.reclaimableValid
  · exact h.ownersDistinct
  · exact h.claimsOpen
  · exact h.claimantKnown
  · exact h.ownerKnown
  · exact h.commandOwned
  · exact h.stoppedEmpty
  · exact h.claimIdIdle

/-- The channels have no part in the invariant. -/
theorem Inv.withChannels {s : State} (h : Inv s) (inp : List Edge) (o : SideOperands) (r : Option Response) :
    Inv { s with inputs := inp, side := o, rsp := r } :=
  ⟨h.client.congr rfl, h.server.congr rfl, h.role.serverClientState, h.role.clientServerState⟩

/-! ### The client's flags -/

theorem Effect.keeps_clientInv {s u : State} {i : Instr} (he : Effect s i u) (h : Inv s) : ClientInv u := by
  have hc := h.client
  cases he with
  | unchanged => exact hc
  | start => exact { hc with connStarted := fun _ => rfl, pendingStarted := fun _ => rfl }
  | stopClient => exact { hc with connStarted := nofun, cmdConn := nofun, pendingStarted := nofun }
  | stopServer hr =>
    obtain ⟨hconn, _, hvalid, hpending, _⟩ := h.role.serverClientState hr
    exact { connStarted := by simp [hconn], cmdConn := by simp [hvalid], pendingStarted := by simp [hpending],
            replySlotRange := hc.replySlotRange }
  | csrw hw =>
    obtain ⟨_, _, _, _, _, _, _, _, rfl⟩ := State.csrWrite_frame hw
    exact hc.congr rfl
  | rxcMatched hs =>
    exact { connStarted := fun _ => hs.2, cmdConn := fun _ => rfl, pendingStarted := fun _ => hs.2,
            replySlotRange := by simp }
  | rxcClaimed hs =>
    exact { connStarted := nofun, cmdConn := nofun, pendingStarted := fun _ => hs.2, replySlotRange := by simp }
  | rxcUnmatched => exact { hc with connStarted := nofun, cmdConn := nofun, pendingStarted := nofun }
  | ctick hs =>
    refine { connStarted := fun _ => hs.2, cmdConn := ?_, pendingStarted := fun _ => hs.2,
             replySlotRange := hc.replySlotRange }
    simp only [State.ctick_curCmdValid, State.ctick_conn, Bool.and_eq_true]
    exact fun hv => ⟨hc.cmdConn hv.1, hv.2⟩
  | rxr =>
    obtain ⟨_, _, hf⟩ := State.rxr_frame _ _ _ _
    rw [hf]
    exact hc.congr rfl
  | sweep => exact hc.congr rfl
  | setcmd => exact hc.congr rfl
  | build =>
    obtain ⟨_, _, _, _, hf⟩ := State.build_frame s s.side.now
    rw [hf]
    exact hc.congr rfl

/-! ### The server's tables -/

/-- A write of the status registers keeps the tables sound if it makes no record invalid and flags only valid ones. -/
theorem ServerInv.of_valid_mono {s t : State} (h : ServerInv s)
    (hrec : ∀ id, (t.cliAt id).reclaimable = true → (t.cliAt id).valid = true)
    (hvalid : ∀ id, (s.cliAt id).valid = true → (t.cliAt id).valid = true)
    (hslot : ∀ k, t.slotAt k = s.slotAt k) (hclaim : ∀ k, t.claimAt k = s.claimAt k)
    (hstarted : t.started = s.started) : ServerInv t := by
  refine ⟨hrec, ?_, ?_, ?_, ?_, ?_, ?_, ?_⟩ <;> simp only [hstarted, hslot, hclaim]
  · exact h.ownersDistinct
  · exact h.claimsOpen
  · exact fun k hk => ⟨(h.claimantKnown k hk).1, hvalid _ (h.claimantKnown k hk).2⟩
  · exact fun k hk => hvalid _ (h.ownerKnown k hk)
  · exact h.commandOwned
  · exact h.stoppedEmpty
  · exact h.claimIdIdle

/-- A sweep flags only valid records (R169). -/
theorem State.timesOut_valid {s : State} {now : Time} {c : CliRecord} (h : s.timesOut now c = true) :
    c.valid = true := by
  simp only [State.timesOut, State.expired, Bool.and_eq_true] at h
  exact h.1.1

theorem ServerInv.sweep {s : State} (h : ServerInv s) (now : Time) : ServerInv (s.sweep now) := by
  refine h.of_valid_mono ?_ ?_ (fun _ => rfl) (fun _ => rfl) rfl
  · intro id
    rw [State.cliAt_sweep]
    simp only [State.sweepRecord, Bool.or_eq_true]
    rintro (hr | ht)
    · exact h.reclaimableValid id hr
    · exact State.timesOut_valid ht
  · intro id hv
    rw [State.cliAt_sweep]
    exact hv

/-- What `RXR`'s upsert makes of each record (R166). -/
theorem State.cliAt_recordReply (s : State) {m : ReplyMessage} (hm : m.senderId ≠ 0) (now : Time) (id : RobotId) :
    (s.recordReply m now).cliAt id = if id = m.senderId then m.record now else s.cliAt id := by
  unfold State.recordReply
  rw [State.cliAt_noteEvent, State.cliAt_setCli _ _ _ _ hm]

theorem ServerInv.recordReply {s : State} (h : ServerInv s) {m : ReplyMessage} (hm : m.senderId ≠ 0) (now : Time) :
    ServerInv (s.recordReply m now) := by
  refine h.of_valid_mono ?_ ?_ (fun k => by simp [State.recordReply]) (fun k => by simp [State.recordReply])
    (by simp [State.recordReply])
  · intro id
    rw [State.cliAt_recordReply s hm]
    split
    · exact nofun
    · exact h.reclaimableValid id
  · intro id hv
    rw [State.cliAt_recordReply s hm]
    split
    · rfl
    · exact hv

/-- A claim written on an open slot of a started server keeps the tables sound, if its id is that of a known robot for
a single claimant and 0 otherwise (R45(b), R45(c)). -/
theorem ServerInv.setClaim {s : State} (h : ServerInv s) {k : Fin 6} {c : Claim} (hs : s.started = true)
    (hopen : (s.slotAt k).owner = 0) (hone : c.state = .one → c.id ≠ 0 ∧ (s.cliAt c.id).valid = true)
    (hidle : c.state ≠ .one → c.id = 0) : ServerInv (s.setClaim k c) := by
  refine { h with claimsOpen := ?_, claimantKnown := ?_, stoppedEmpty := ?_, claimIdIdle := ?_ }
  · intro j hj
    rw [State.claimAt_setClaim] at hj
    split at hj
    · next hjk => rw [hjk]; exact hopen
    · exact h.claimsOpen j hj
  · intro j hj
    rw [State.claimAt_setClaim] at hj ⊢
    split at hj
    · next hjk => rw [if_pos hjk]; exact hone hj
    · next hjk => rw [if_neg hjk]; exact h.claimantKnown j hj
  · intro hn
    cases hs.symm.trans hn
  · intro j hj
    rw [State.claimAt_setClaim] at hj ⊢
    split at hj
    · next hjk => rw [if_pos hjk]; exact hidle hj
    · next hjk => rw [if_neg hjk]; exact h.claimIdIdle j hj

theorem ServerInv.registerClaim {s : State} (h : ServerInv s) {id : RobotId} (hs : s.started = true) (hid : id ≠ 0)
    (hv : (s.cliAt id).valid = true) (rx : BitVec 3) : ServerInv (s.registerClaim id rx).1 := by
  rcases s.registerClaim_cases id rx with e | ⟨k, _, _, ho, _, e⟩ | ⟨k, _, _, _, _, _, e⟩ | ⟨k, _, _, ho, _, _, e⟩ |
    ⟨k, _, _, _, _, e⟩ <;> rw [e]
  · exact h
  · exact h.setClaim hs ho (fun _ => ⟨hid, hv⟩) (fun hn => absurd rfl hn)
  · exact h
  · exact h.setClaim hs ho nofun (fun _ => rfl)
  · exact h

/-- A write of the pending commands keeps the tables sound if it gives a command to owned slots only (R45(e)). -/
theorem ServerInv.of_owner_eq {s t : State} (h : ServerInv s) (hcli : ∀ id, t.cliAt id = s.cliAt id)
    (hclaim : ∀ k, t.claimAt k = s.claimAt k) (hstarted : t.started = s.started)
    (howner : ∀ k, (t.slotAt k).owner = (s.slotAt k).owner)
    (hcmd : ∀ k, (t.slotAt k).cmdValid = true → (s.slotAt k).owner ≠ 0) : ServerInv t := by
  constructor <;> simp only [hstarted, hcli, howner, hclaim]
  · exact h.reclaimableValid
  · exact h.ownersDistinct
  · exact h.claimsOpen
  · exact h.claimantKnown
  · exact h.ownerKnown
  · exact hcmd
  · intro hn k
    obtain ⟨ho, _, hm⟩ := h.stoppedEmpty hn k
    exact ⟨ho, Bool.eq_false_iff.mpr fun hv => hcmd k hv ho, hm⟩
  · exact h.claimIdIdle

/-- Posting a command keeps every owner (R170). -/
theorem State.owner_postCommand (s : State) (k : Fin 6) (m : ControlMessage) (j : Fin 6) :
    ((s.postCommand k m).slotAt j).owner = (s.slotAt j).owner := by
  unfold State.postCommand
  rw [State.slotAt_setSlot]
  split
  · next hj => rw [hj]
  · rfl

theorem ServerInv.postCommand {s : State} (h : ServerInv s) {k : Fin 6} (hk : (s.slotAt k).owner ≠ 0)
    (m : ControlMessage) : ServerInv (s.postCommand k m) := by
  refine h.of_owner_eq (fun _ => rfl) (fun _ => rfl) rfl (s.owner_postCommand k m) fun j => ?_
  unfold State.postCommand
  rw [State.slotAt_setSlot]
  split
  · next hj => rw [hj]; exact fun _ => hk
  · exact h.commandOwned j

theorem ServerInv.stopServer {s : State} (h : ServerInv s) : ServerInv s.stopServer where
  reclaimableValid := h.reclaimableValid
  ownersDistinct j k hj := by simp [State.slotAt_stopServer] at hj
  claimsOpen k _ := by simp [State.slotAt_stopServer]
  claimantKnown k hk := by simp [Claim.cleared] at hk
  ownerKnown k hk := by simp [State.slotAt_stopServer] at hk
  commandOwned k hk := by simp [State.slotAt_stopServer] at hk
  stoppedEmpty _ k := by simp [State.slotAt_stopServer, Claim.cleared]
  claimIdIdle k _ := by simp [Claim.cleared]

/-! ### The server's tables in `BUILD` -/

theorem State.owner_freeSlots (s : State) (k : Fin 6) :
    (s.freeSlots.slotAt k).owner = if s.ownerReclaimable k then 0 else (s.slotAt k).owner := by
  rw [State.slotAt_freeSlots]; split <;> rfl

/-- Freeing leaves an owner only where there was the same one. -/
theorem State.owner_freeSlots_ne_zero {s : State} {k : Fin 6} (h : (s.freeSlots.slotAt k).owner ≠ 0) :
    s.freeSlots.slotAt k = s.slotAt k := by
  rw [State.owner_freeSlots] at h
  rw [State.slotAt_freeSlots]
  split at h
  · exact absurd rfl h
  · next hr => rw [if_neg hr]

theorem ServerInv.freeSlots {s : State} (h : ServerInv s) (hs : s.started = true) : ServerInv s.freeSlots := by
  refine { h with ownersDistinct := ?_, claimsOpen := ?_, ownerKnown := ?_, commandOwned := ?_, stoppedEmpty := ?_ }
  · intro j k hj hjk
    have ej := State.owner_freeSlots_ne_zero hj
    have ek := State.owner_freeSlots_ne_zero (hjk ▸ hj)
    rw [ej] at hj hjk
    rw [ek] at hjk
    exact h.ownersDistinct j k hj hjk
  · intro k hk
    rw [State.owner_freeSlots]
    split
    · rfl
    · exact h.claimsOpen k hk
  · intro k hk
    have ek := State.owner_freeSlots_ne_zero hk
    rw [ek] at hk ⊢
    exact h.ownerKnown k hk
  · intro k hk
    rw [State.slotAt_freeSlots] at hk ⊢
    split at hk
    · cases hk
    · next hr => rw [if_neg hr]; exact h.commandOwned k hk
  · intro hn
    cases hs.symm.trans hn

/-- No nonzero id owns two slots, R45(a), as a property of a slot table alone. -/
def State.OwnersDistinct (s : State) : Prop :=
  ∀ j k : Fin 6, (s.slotAt j).owner ≠ 0 → (s.slotAt j).owner = (s.slotAt k).owner → j = k

/-- A grant goes to a robot that owns no slot, so it makes no second owner (R173). -/
theorem State.OwnersDistinct.commitSlot {acc : CommitAcc} (h : acc.state.OwnersDistinct) (k : Fin 6) :
    (commitSlot acc k).state.OwnersDistinct := by
  intro i j hi hij
  simp only [slotAt_commitSlot] at hi hij
  by_cases hg : acc.state.grants k = true
  · obtain ⟨_, _, _, _, hnone⟩ := (State.grants_iff _ _).mp hg
    have hfree := State.ownedSlot_eq_none.mp hnone
    by_cases hik : i = k <;> by_cases hjk : j = k <;>
      simp only [hik, hjk, hg, and_self, false_and, if_true, if_false] at hi hij
    · exact hik.trans hjk.symm
    · exact absurd hij.symm (hfree j)
    · exact absurd hij (hfree i)
    · exact h i j hi hij
  · simp only [hg, Bool.false_eq_true, and_false, if_false] at hi hij
    exact h i j hi hij

theorem State.OwnersDistinct.commit {s : State} (h : s.OwnersDistinct) : s.commit.OwnersDistinct := by
  have hloop : s.commitLoop.state.OwnersDistinct :=
    s.commitLoop_induction (P := fun acc => acc.state.OwnersDistinct) h (fun _ k hacc => hacc.commitSlot k)
  intro j k
  simp only [State.slotAt_commit]
  exact hloop j k

theorem ServerInv.commit {s : State} (h : ServerInv s) (hs : s.started = true) : ServerInv s.commit where
  reclaimableValid := by simpa only [State.cliAt_commit] using h.reclaimableValid
  ownersDistinct := State.OwnersDistinct.commit h.ownersDistinct
  claimsOpen k hk := by simp [Claim.cleared] at hk
  claimantKnown k hk := by simp [Claim.cleared] at hk
  ownerKnown k hk := by
    rw [State.cliAt_commit]
    rcases s.slotAt_commit_cases k with e | ⟨_, _, hv, _, e⟩ <;> rw [e] at hk ⊢
    · exact h.ownerKnown k hk
    · exact hv
  commandOwned k hk := by
    rcases s.slotAt_commit_cases k with e | ⟨_, _, _, _, e⟩ <;> rw [e] at hk ⊢
    · exact h.commandOwned k hk
    · cases hk
  stoppedEmpty hn := by
    rw [State.commit_started, hs] at hn
    cases hn
  claimIdIdle k _ := by simp [Claim.cleared]

theorem ServerInv.consumeCommands {s : State} (h : ServerInv s) : ServerInv s.consumeCommands := by
  refine h.of_owner_eq (fun _ => rfl) (fun _ => rfl) rfl ?_ ?_ <;> intro k <;> rw [State.slotAt_consumeCommands]
  simp only [Bool.and_eq_true]
  exact fun hk => h.commandOwned k hk.1

/-- The tables are sound when `BUILD` arbitrates (R171). -/
theorem ServerInv.arbitrated {s : State} (h : ServerInv s) (hs : s.started = true) (now : Time) :
    ServerInv (s.arbitrated now) := (h.sweep now).freeSlots hs

theorem ServerInv.assigned {s : State} (h : ServerInv s) (hs : s.started = true) (now : Time) :
    ServerInv (s.assigned now) := (h.arbitrated hs now).commit hs

/-- A server without an assignment, a command or a claim is sound, started or not (R45(f)). -/
theorem ServerInv.of_vacant {s t : State} (h : ServerInv s) (hcli : t.cli = s.cli)
    (hslot : t.slot = Vector.replicate 6 SlotEntry.vacant) (hclaim : t.claim = Vector.replicate 6 Claim.cleared) :
    ServerInv t := by
  have hcli (id) : t.cliAt id = s.cliAt id := State.cliAt_congr hcli id
  have hslot (k) : t.slotAt k = SlotEntry.vacant := by simp [State.slotAt, hslot]
  have hclaim (k) : t.claimAt k = Claim.cleared := by simp [State.claimAt, hclaim]
  constructor <;> simp only [hcli, hslot, hclaim]
  · exact h.reclaimableValid
  all_goals simp [SlotEntry.vacant, Claim.cleared]

theorem Effect.keeps_serverInv {s u : State} {i : Instr} (he : Effect s i u) (h : Inv s) : ServerInv u := by
  have hv := h.server
  cases he with
  | unchanged => exact hv
  | start => exact { hv with stoppedEmpty := nofun }
  | stopClient hr =>
    obtain ⟨_, hslot, hclaim⟩ := h.role.clientServerState hr
    exact hv.of_vacant rfl hslot hclaim
  | stopServer => exact hv.stopServer
  | csrw hw =>
    obtain ⟨_, _, _, _, _, _, _, _, rfl⟩ := State.csrWrite_frame hw
    exact hv.congr rfl
  | rxcMatched => exact hv.congr rfl
  | rxcClaimed => exact hv.congr rfl
  | rxcUnmatched => exact hv.congr rfl
  | ctick => exact hv.congr rfl
  | @rxr rx m hs hf =>
    obtain ⟨_, _, _, _, _, _, hm⟩ := serverFront_eq_ok hf
    refine (hv.recordReply hm _).registerClaim (by simpa [State.recordReply] using hs.2) hm ?_ rx
    rw [State.cliAt_recordReply s hm, if_pos rfl]
    rfl
  | sweep => exact hv.sweep _
  | setcmd _ hid => exact hv.postCommand hid _
  | build hs => exact (hv.assigned hs.2 _).consumeCommands

/-! ### The other role's state -/

/-- An operation of the client writes none of the server's tables (R202). -/
theorem RoleInv.of_client {s t : State} (h : RoleInv s) (hr : s.cfg.role = .client) (hcfg : t.cfg = s.cfg)
    (ht : (t.cli, t.slot, t.claim) = (s.cli, s.slot, s.claim)) : RoleInv t := by
  simp only [Prod.mk.injEq] at ht
  obtain ⟨hcli, hslot, hclaim⟩ := ht
  constructor
  · intro e
    rw [hcfg, hr] at e
    cases e
  · rw [hcfg, hcli, hslot, hclaim]
    exact h.clientServerState

/-- An operation of the server writes none of the client's registers (R202). -/
theorem RoleInv.of_server {s t : State} (h : RoleInv s) (hr : s.cfg.role = .server) (hcfg : t.cfg = s.cfg)
    (ht : (t.conn, t.curCmd, t.curCmdValid, t.replyPending, t.replySlot, t.replyArmedTime, t.lastFrameTime) =
      (s.conn, s.curCmd, s.curCmdValid, s.replyPending, s.replySlot, s.replyArmedTime, s.lastFrameTime)) :
    RoleInv t := by
  simp only [Prod.mk.injEq] at ht
  obtain ⟨hconn, hcmd, hvalid, hpending, hslot, harmed, hlast⟩ := ht
  constructor
  · rw [hcfg, hconn, hcmd, hvalid, hpending, hslot, harmed, hlast]
    exact h.serverClientState
  · intro e
    rw [hcfg, hr] at e
    cases e

theorem Effect.keeps_roleInv {s u : State} {i : Instr} (he : Effect s i u) (h : RoleInv s) : RoleInv u := by
  cases he with
  | unchanged => exact h
  | start => exact ⟨h.serverClientState, h.clientServerState⟩
  | stopClient hr => exact h.of_client hr rfl rfl
  | stopServer hr => exact h.of_server hr rfl rfl
  | csrw hw =>
    obtain ⟨_, _, _, _, _, _, _, _, rfl⟩ := State.csrWrite_frame hw
    exact ⟨h.serverClientState, h.clientServerState⟩
  | rxcMatched hs => exact h.of_client hs.1 rfl rfl
  | rxcClaimed hs => exact h.of_client hs.1 rfl rfl
  | rxcUnmatched hs => exact h.of_client hs.1 rfl rfl
  | ctick hs => exact h.of_client hs.1 rfl rfl
  | rxr hs =>
    obtain ⟨_, _, hf⟩ := State.rxr_frame _ _ _ _
    rw [hf]
    exact h.of_server hs.1 rfl rfl
  | sweep hs => exact h.of_server hs.1 rfl rfl
  | setcmd hs => exact h.of_server hs.1 rfl rfl
  | build hs =>
    obtain ⟨_, _, _, _, hf⟩ := State.build_frame s s.side.now
    rw [hf]
    exact h.of_server hs.1 rfl rfl

/-! ### Every operation and every step -/

theorem Inv.exec {i : Instr} {s t : State} (h : Inv s) (he : exec i s = .next t) : Inv t := by
  obtain ⟨u, r, hu, rfl⟩ := exec_effect he
  have hinv : Inv u := ⟨hu.keeps_clientInv h, hu.keeps_serverInv h, hu.keeps_roleInv h.role⟩
  exact hinv.withChannels u.inputs u.side r

/-- Settles O58: a step resets, runs one operation, or moves the channels alone. -/
theorem everyStepKeepsTheStateSound : Obligations.EveryStepKeepsTheStateSound := by
  unfold Obligations.EveryStepKeepsTheStateSound
  intro s t h hstep
  rcases step_cases hstep with ⟨inp, rfl⟩ | ⟨i, inp, o, he⟩ | ⟨inp, o, r, rfl⟩
  · exact (inv_resetWith s.cfg).withChannels inp _ _
  · exact (h.withChannels inp o s.rsp).exec he
  · exact h.withChannels inp o r

end Sys2Proof.Machine
end

section
/-! PROOFS. The status registers over every operation (spec/10_state.md R42): O54. -/

namespace Sys2Proof.Machine

open Sys2Proof

/-- The first byte of the payload that `Decode` takes is byte 3 of the wire bytes (R82, R112). -/
theorem decodeFrame_payload_head {B : List Byte} {hd : Header} {b : Byte} {P : List Byte}
    (h : decodeFrame B = .ok (hd, b :: P)) : B[3]? = some b := by
  rcases decodeFrame_cases B with ⟨_, hd'⟩ | ⟨len, _, _, rest, rfl, _, hd'⟩
  · cases hd'.symm.trans h
  · have hP : rest.take (min (len.toNat - 2) rest.length) = b :: P :=
      congrArg Prod.snd (Except.ok.inj (hd'.symm.trans h))
    rw [← List.take_append_drop (min (len.toNat - 2) rest.length) rest, hP]
    rfl

/-- The sender that the server's front end finds stands in byte 3 of the wire bytes (R130, R166). -/
theorem serverFront_sender {cfg : Config} {B : List Byte} {m : ReplyMessage} (h : serverFront cfg B = .ok m) :
    B[3]? = some m.senderId := by
  obtain ⟨hd, P, hdec, _, _, hrp, _⟩ := serverFront_eq_ok h
  rcases unpackRP_cases P with ⟨_, hu⟩ | ⟨b0, b1, rest, rfl, hu⟩
  · cases hu.symm.trans hrp
  · cases hu.symm.trans hrp
    exact decodeFrame_payload_head hdec

/-- A byte of the operand is the byte of the buffer at that place (R48). -/
theorem SideOperands.buf_of_bytes {o : SideOperands} {n : Nat} {b : Byte} (hn : n < 120) (h : o.bytes[n]? = some b) :
    o.buf[n] = b := by
  unfold SideOperands.bytes at h
  rw [List.getElem?_take] at h
  split at h
  · simpa [hn] using h
  · cases h

@[simp] theorem State.cliAt_registerClaim (s : State) (id : RobotId) (rx : BitVec 3) (j : RobotId) :
    (s.registerClaim id rx).1.cliAt j = s.cliAt j :=
  State.cliAt_congr (congrArg State.cli (s.registerClaim_frame id rx)) j

/-- What `BUILD` makes of each record is what its sweep makes of it (R171). -/
theorem State.cliAt_build (s : State) (now : Time) (id : RobotId) :
    (s.assigned now).consumeCommands.cliAt id = s.sweepRecord now (s.cliAt id) := by
  rw [State.cliAt_consumeCommands, State.assigned, State.cliAt_commit, State.arbitrated,
    State.cliAt_freeSlots, State.cliAt_sweep]

/-- A record changes in three ways at most: not at all, by the flag of a sweep, or by a reply of its robot (R42). -/
theorem Effect.cliAt_cases {s u : State} {i : Instr} (he : Effect s i u) (id : RobotId) :
    u.cliAt id = s.cliAt id ∨
    ((i = .sweep ∨ i = .build) ∧ u.cliAt id = s.sweepRecord s.side.now (s.cliAt id)) ∨
    (∃ rx m, i = .rxr rx ∧ serverFront s.cfg s.side.bytes = .ok m ∧ m.senderId = id ∧
      u.cliAt id = m.record s.side.now) := by
  cases he with
  | unchanged | start | stopClient | stopServer | rxcMatched | rxcClaimed | rxcUnmatched | ctick | setcmd =>
    exact .inl rfl
  | csrw hw =>
    obtain ⟨_, _, _, _, _, _, _, _, rfl⟩ := State.csrWrite_frame hw
    exact .inl rfl
  | @rxr rx m hs hf =>
    obtain ⟨_, _, _, _, _, _, hm⟩ := serverFront_eq_ok hf
    rw [State.cliAt_registerClaim, State.cliAt_recordReply s hm]
    split
    · next hid => exact .inr (.inr ⟨rx, m, rfl, hf, hid.symm, rfl⟩)
    · exact .inl rfl
  | sweep => exact .inr (.inl ⟨.inl rfl, State.cliAt_sweep s _ id⟩)
  | build => exact .inr (.inl ⟨.inr rfl, State.cliAt_build s _ id⟩)

/-- A sweep that changes a record sets its `reclaimable` (R169). -/
theorem State.sweepRecord_of_ne {s : State} {now : Time} {c : CliRecord} (h : s.sweepRecord now c ≠ c) :
    s.sweepRecord now c = { c with reclaimable := true } := by
  unfold State.sweepRecord at h ⊢
  cases hr : c.reclaimable || s.timesOut now c with
  | true => rfl
  | false =>
    rw [hr, ← (Bool.or_eq_false_iff.mp hr).1] at h
    exact absurd rfl h

/-- Settles O54, by the three ways a record can change. -/
theorem recordsAreNeverDeleted : Obligations.RecordsAreNeverDeleted := by
  unfold Obligations.RecordsAreNeverDeleted
  intro i s t id h
  obtain ⟨u, r, he, rfl⟩ := exec_effect h
  have ht : State.cliAt { u with rsp := r } id = u.cliAt id := rfl
  rw [ht]
  rcases he.cliAt_cases id with e | ⟨hi, e⟩ | ⟨rx, m, rfl, hf, hm, e⟩ <;> rw [e]
  · exact ⟨fun hv => hv, fun hne => absurd rfl hne⟩
  · exact ⟨fun hv => hv, fun hne => .inl ⟨hi, State.sweepRecord_of_ne hne⟩⟩
  · refine ⟨fun _ => rfl, fun _ => .inr ⟨rx, rfl, ?_, rfl, rfl⟩⟩
    exact (SideOperands.buf_of_bytes (by decide) (serverFront_sender hf)).trans hm

end Sys2Proof.Machine
end

section
/-! PROOFS. The interrupt enable (spec/10_state.md R35, spec/60_exceptions.md R199): O22. -/

namespace Sys2Proof.Machine

open Sys2Proof

/-! ### Every function of the state passes `IRQ_EN` through -/

/-- The state with `IRQ_EN` replaced (R35). -/
def State.withIrqEn (s : State) (v : BitVec 7) : State := { s with irqEn := v }

/-- What a body answers, with `IRQ_EN` replaced in the state it leaves. -/
def withIrqEnIn (v : BitVec 7) (b : Except Status (State × Result)) : Except Status (State × Result) :=
  b.map fun p => (p.1.withIrqEn v, p.2)

@[simp] theorem State.withIrqEn_side (s : State) (v : BitVec 7) : (s.withIrqEn v).side = s.side := rfl
@[simp] theorem State.withIrqEn_cfg (s : State) (v : BitVec 7) : (s.withIrqEn v).cfg = s.cfg := rfl

theorem State.noteEvent_withIrqEn (s : State) (v : BitVec 7) (e : Event) (b : Bool) :
    (s.withIrqEn v).noteEvent e b = (s.noteEvent e b).withIrqEn v := rfl

theorem State.csrRead_withIrqEn (s : State) (v : BitVec 7) {a : BitVec 8} (ha : a ≠ 0x03) :
    (s.withIrqEn v).csrRead a = s.csrRead a := by
  have ha : a.toNat ≠ 3 := fun h => ha (BitVec.eq_of_toNat_eq h)
  unfold State.csrRead
  split
  case h_4 h => exact absurd h ha
  all_goals rfl

theorem State.csrWrite_withIrqEn (s : State) (v : BitVec 7) {a : BitVec 8} (d : Half) (ha : a ≠ 0x03) :
    (s.withIrqEn v).csrWrite a d = (s.csrWrite a d).map (State.withIrqEn · v) := by
  have ha : a.toNat ≠ 3 := fun h => ha (BitVec.eq_of_toNat_eq h)
  unfold State.csrWrite
  split
  case h_2 h => exact absurd h ha
  all_goals rfl

theorem State.recordReply_withIrqEn (s : State) (v : BitVec 7) (m : ReplyMessage) (now : Time) :
    (s.withIrqEn v).recordReply m now = (s.recordReply m now).withIrqEn v := by
  unfold State.recordReply State.setCli
  split <;> rfl

theorem State.registerClaim_withIrqEn (s : State) (v : BitVec 7) (id : RobotId) (rx : BitVec 3) :
    (s.withIrqEn v).registerClaim id rx = ((s.registerClaim id rx).1.withIrqEn v, (s.registerClaim id rx).2) := by
  have hown : (s.withIrqEn v).ownedSlot id = s.ownedSlot id := rfl
  have hslot (k) : (s.withIrqEn v).slotAt k = s.slotAt k := rfl
  have hclaim (k) : (s.withIrqEn v).claimAt k = s.claimAt k := rfl
  unfold State.registerClaim
  simp only [hown, hslot, hclaim]
  by_cases ho : (s.ownedSlot id).isSome
  · simp only [if_pos ho]
  · simp only [if_neg ho]
    cases slotOf rx with
    | none => rfl
    | some k =>
      by_cases hk : (s.slotAt k).owner ≠ 0
      · simp only [if_pos hk]
      · simp only [if_neg hk]
        cases (s.claimAt k).state with
        | none => rfl
        | one =>
          by_cases hid : (s.claimAt k).id = id
          · simp only [if_pos hid]
          · simp only [if_neg hid]; rfl
        | collided => rfl

theorem State.grantSlot_withIrqEn (s : State) (v : BitVec 7) (k : Fin 6) :
    (s.withIrqEn v).grantSlot k = (s.grantSlot k).withIrqEn v := by
  unfold State.grantSlot
  rw [show (s.withIrqEn v).grants k = s.grants k from rfl]
  split <;> rfl

/-- The state of `Commit`'s loop with `IRQ_EN` replaced. -/
def CommitAcc.withIrqEn (acc : CommitAcc) (v : BitVec 7) : CommitAcc := { acc with state := acc.state.withIrqEn v }

theorem commitSlot_withIrqEn (acc : CommitAcc) (v : BitVec 7) (k : Fin 6) :
    commitSlot (acc.withIrqEn v) k = (commitSlot acc k).withIrqEn v := by
  have hgrant : (acc.state.withIrqEn v).grantSlot k = (acc.state.grantSlot k).withIrqEn v :=
    acc.state.grantSlot_withIrqEn v k
  unfold commitSlot CommitAcc.withIrqEn
  simp only [hgrant]
  rfl

theorem State.commitLoop_withIrqEn (s : State) (v : BitVec 7) :
    (s.withIrqEn v).commitLoop = s.commitLoop.withIrqEn v :=
  List.foldl_hom (CommitAcc.withIrqEn · v) (g₁ := commitSlot) (l := slotIndices)
    (init := { state := s, assigned := [], collided := [] }) fun acc k => commitSlot_withIrqEn acc v k

theorem State.commit_withIrqEn (s : State) (v : BitVec 7) : (s.withIrqEn v).commit = s.commit.withIrqEn v := by
  unfold State.commit
  rw [State.commitLoop_withIrqEn]
  simp only [CommitAcc.withIrqEn, State.noteEvent_withIrqEn]

theorem State.assigned_withIrqEn (s : State) (v : BitVec 7) (now : Time) :
    (s.withIrqEn v).assigned now = (s.assigned now).withIrqEn v :=
  State.commit_withIrqEn (s.arbitrated now) v

/-! ### Every operation -/

/-- `i` is the read or the write of `IRQ_EN` (R146, R147). -/
def accessesIrqEn : Instr → Bool
  | .csrr a | .csrw a _ => a == 0x03
  | _ => false

theorem prologue_withIrqEn {i : Instr} (s : State) (v : BitVec 7) (hi : accessesIrqEn i = false) :
    prologue i (s.withIrqEn v) = prologue i s := by
  have hop : operandOutOfRange i (s.withIrqEn v) = operandOutOfRange i s := by
    cases i
    case csrr a => exact congrArg Option.isNone (s.csrRead_withIrqEn v (by simpa [accessesIrqEn] using hi))
    case csrw a d =>
      have hw := s.csrWrite_withIrqEn v d (by simpa [accessesIrqEn] using hi)
      simp only [operandOutOfRange, hw, Option.isNone_map]
    all_goals rfl
  unfold prologue
  rw [hop]
  rfl

theorem rxcBody_withIrqEn (s : State) (v : BitVec 7) : rxcBody (s.withIrqEn v) = withIrqEnIn v (rxcBody s) := by
  unfold rxcBody
  rw [State.withIrqEn_cfg, State.withIrqEn_side]
  cases clientFront s.cfg s.side.bytes with
  | error e => rfl
  | ok F =>
    refine congrArg Except.ok ?_
    have hclaim : claimSlot (s.withIrqEn v) F s.side.rnd = claimSlot s F s.side.rnd := rfl
    have hid : (s.withIrqEn v).ownId = s.ownId := rfl
    unfold rxcAccepted
    rw [State.withIrqEn_side, hid, hclaim]
    cases matchSlot F s.ownId with
    | some k => rfl
    | none => cases claimSlot s F s.side.rnd <;> rfl

theorem buildBody_withIrqEn (s : State) (v : BitVec 7) : buildBody (s.withIrqEn v) = withIrqEnIn v (buildBody s) := by
  have hmask : ((s.withIrqEn v).sweep s.side.now).reclaimMask = (s.sweep s.side.now).reclaimMask := rfl
  have harb : (s.withIrqEn v).arbitrated s.side.now = (s.arbitrated s.side.now).withIrqEn v := rfl
  have hframe (u : State) : (u.withIrqEn v).nextFrame = u.nextFrame := rfl
  have hconsume (u : State) : (u.withIrqEn v).consumeCommands = u.consumeCommands.withIrqEn v := rfl
  rw [buildBody_eq, buildBody_eq, State.withIrqEn_side, State.withIrqEn_cfg, State.assigned_withIrqEn, hmask, harb,
    State.commitLoop_withIrqEn, hframe, hconsume]
  simp only [withIrqEnIn, Except.map, CommitAcc.withIrqEn]

theorem rxrBody_withIrqEn (s : State) (v : BitVec 7) (rx : BitVec 3) :
    rxrBody rx (s.withIrqEn v) = withIrqEnIn v (rxrBody rx s) := by
  unfold rxrBody
  rw [State.withIrqEn_cfg, State.withIrqEn_side]
  cases serverFront s.cfg s.side.bytes with
  | error e => rfl
  | ok m =>
    refine congrArg Except.ok ?_
    unfold rxrAccepted
    rw [State.withIrqEn_side, State.recordReply_withIrqEn, State.registerClaim_withIrqEn]
    rfl

theorem ctickBody_withIrqEn (s : State) (v : BitVec 7) : ctickBody (s.withIrqEn v) = withIrqEnIn v (ctickBody s) := by
  obtain ⟨r, h, hr⟩ := ctickBody_eq s
  obtain ⟨r', h', hr'⟩ := ctickBody_eq (s.withIrqEn v)
  rw [h, h', hr, hr']
  rfl

theorem bodyOf_withIrqEn {i : Instr} (s : State) (v : BitVec 7) (hi : accessesIrqEn i = false) :
    bodyOf i (s.withIrqEn v) = withIrqEnIn v (bodyOf i s) := by
  cases i <;> simp only [bodyOf]
  case nop | enccf | encrp | start | sweep | rdcli => rfl
  case enc | dec | deccf | decrp | rdslot | stop =>
    simp only [encBody, decBody, deccfBody, decrpBody, rdslotBody, stopBody, State.withIrqEn_side, State.withIrqEn_cfg]
    split <;> rfl
  case csrr a =>
    unfold csrrBody
    rw [s.csrRead_withIrqEn v (by simpa [accessesIrqEn] using hi)]
    cases s.csrRead a <;> rfl
  case csrw a d =>
    unfold csrwBody
    rw [s.csrWrite_withIrqEn v d (by simpa [accessesIrqEn] using hi)]
    cases s.csrWrite a d <;> rfl
  case rxc => exact rxcBody_withIrqEn s v
  case ctick => exact ctickBody_withIrqEn s v
  case rxr rx => exact rxrBody_withIrqEn s v rx
  case setcmd =>
    have hown (id) : (s.withIrqEn v).ownedSlot id = s.ownedSlot id := rfl
    simp only [setcmdBody, State.withIrqEn_side, hown]
    split <;> rfl
  case build => exact buildBody_withIrqEn s v

/-- The line is up exactly when some event and its enable are both set (R35, R199). -/
theorem State.irq_iff (s : State) : s.irq = true ↔ ∃ b, s.events.getLsbD b = true ∧ s.irqEn.getLsbD b = true := by
  rw [State.irq, bne_iff_ne]
  constructor
  · intro h
    by_contra hn
    refine h (BitVec.eq_of_getLsbD_eq fun b _ => ?_)
    rw [BitVec.getLsbD_and]
    exact (Bool.eq_false_iff.mpr fun hb => hn ⟨b, Bool.and_eq_true_iff.mp hb⟩).trans BitVec.getLsbD_zero.symm
  · rintro ⟨b, he, hi⟩ h
    have hb := congrArg (BitVec.getLsbD · b) h
    simp [he, hi] at hb

/-- Settles O22: the prologue and the body of every other operation pass `IRQ_EN` through. -/
theorem irqEnableChangesNoOperation : Obligations.IrqEnableChangesNoOperation := by
  unfold Obligations.IrqEnableChangesNoOperation
  refine ⟨fun i s t v hr hw h => ?_, State.irq_iff⟩
  have hi : accessesIrqEn i = false := by
    cases i
    case csrr a => simpa [accessesIrqEn] using hr
    case csrw a d => simpa [accessesIrqEn] using hw d
    all_goals rfl
  show exec i (s.withIrqEn v) = .next (t.withIrqEn v)
  rw [exec_eq_serve] at h ⊢
  unfold State.serve State.complete at h ⊢
  rw [prologue_withIrqEn s v hi, bodyOf_withIrqEn s v hi]
  obtain rfl := Host.Outcome.next.inj h
  cases prologue i s with
  | error e => rfl
  | ok => cases bodyOf i s <;> rfl

end Sys2Proof.Machine
end

section
/-! PROOFS. The event bits over every operation (spec/10_state.md R34): O19. -/

namespace Sys2Proof.Machine

open Sys2Proof

/-! ### A bit and what sets it -/

/-- The number of an event's bit in `EVENTS` (R34). -/
def Event.index : Event → Nat
  | .connUp => 0
  | .connDown => 1
  | .clientNew => 2
  | .clientTimeout => 3
  | .slotCollision => 4
  | .slotAssigned => 5
  | .slotFreed => 6

theorem Event.getLsbD_mask (e f : Event) : e.mask.getLsbD f.index = decide (f = e) := by
  cases e <;> cases f <;> rfl

/-- Noting an event sets its own bit and no other (R34). -/
theorem State.getLsbD_noteEvent (s : State) (e f : Event) (b : Bool) :
    (s.noteEvent e b).events.getLsbD f.index = (s.events.getLsbD f.index || (b && decide (f = e))) := by
  rw [State.noteEvent_events]
  cases b with
  | false => simp
  | true => rw [if_pos rfl, BitVec.getLsbD_or, Event.getLsbD_mask, Bool.true_and]

/-- What R34 says sets each bit: the event has happened in the operation `i` that took `s` to `t`. -/
def happened (i : Instr) (s t : State) : Event → Prop
  | .connUp => s.conn = false ∧ t.conn = true
  | .connDown => s.conn = true ∧ t.conn = false
  | .clientNew => ∃ id : RobotId, (s.cliAt id).valid = false ∧ (t.cliAt id).valid = true
  | .clientTimeout => ∃ id : RobotId, (s.cliAt id).reclaimable = false ∧ (t.cliAt id).reclaimable = true
  | .slotCollision => i = .build ∧ s.serving .server ∧ ∃ k : Fin 6, (s.claimAt k).state = .collided
  | .slotAssigned => i = .build ∧ ∃ k : Fin 6, (s.slotAt k).owner = 0 ∧ (t.slotAt k).owner ≠ 0
  | .slotFreed => ∃ k : Fin 6, (s.slotAt k).owner ≠ 0 ∧ (t.slotAt k).owner = 0

/-- Every bit is its old value or the event that R34 gives it. -/
def EventsTell (i : Instr) (s t : State) : Prop :=
  ∀ e : Event, t.events.getLsbD e.index = true ↔ s.events.getLsbD e.index = true ∨ happened i s t e

/-- An operation that notes one event tells the truth if that event, and no other, has happened when it is noted. -/
theorem EventsTell.of_noteEvent {i : Instr} {s t : State} (n : Event) (b : Bool)
    (hev : t.events = (s.noteEvent n b).events) (hh : ∀ e, happened i s t e ↔ e = n ∧ b = true) :
    EventsTell i s t := by
  intro e
  rw [hev, State.getLsbD_noteEvent, hh]
  simp [and_comm]

/-- Where owners and records stay as they are, only the client's two events can have happened. -/
theorem happened_of_tables {i : Instr} {s t : State} (hi : ¬ (i = .build ∧ s.serving .server))
    (hcli : ∀ id, t.cliAt id = s.cliAt id) (howner : ∀ k, (t.slotAt k).owner = (s.slotAt k).owner) (e : Event) :
    happened i s t e ↔
      (e = .connUp ∧ s.conn = false ∧ t.conn = true) ∨ (e = .connDown ∧ s.conn = true ∧ t.conn = false) := by
  cases e with
  | connUp | connDown => simp [happened]
  | clientNew | clientTimeout => simp [happened, hcli]
  | slotCollision => simpa [happened] using fun h hs => absurd ⟨h, hs⟩ hi
  | slotAssigned | slotFreed => simp [happened, howner]

/-- An operation that changes no owner, no record and no connection tells the truth if it changes no event bit. -/
theorem EventsTell.of_quiet {i : Instr} {s t : State} (hi : ¬ (i = .build ∧ s.serving .server))
    (hcli : ∀ id, t.cliAt id = s.cliAt id) (howner : ∀ k, (t.slotAt k).owner = (s.slotAt k).owner)
    (hconn : t.conn = s.conn) (hev : t.events = s.events) : EventsTell i s t := by
  refine .of_noteEvent .connUp false hev fun e => ?_
  rw [happened_of_tables hi hcli howner, hconn]
  cases s.conn <;> simp

/-- An operation that connects, and notes it as `CONN_UP` (R34). -/
theorem EventsTell.of_connUp {i : Instr} {s t : State} (hi : i ≠ .build) (hcli : t.cli = s.cli)
    (hslot : t.slot = s.slot) (hconn : t.conn = true)
    (hev : t.events = (s.noteEvent .connUp (!s.conn)).events) : EventsTell i s t := by
  refine .of_noteEvent _ _ hev fun e => ?_
  rw [happened_of_tables (fun h => hi h.1) (State.cliAt_congr hcli) fun k => by rw [State.slotAt_congr hslot], hconn]
  simp

/-- An operation that disconnects where `b` is 1, and notes it as `CONN_DOWN` (R34). -/
theorem EventsTell.of_connDown {i : Instr} {s t : State} {b : Bool} (hi : i ≠ .build) (hcli : t.cli = s.cli)
    (hslot : t.slot = s.slot) (hconn : t.conn = (s.conn && !b))
    (hev : t.events = (s.noteEvent .connDown (s.conn && b)).events) : EventsTell i s t := by
  refine .of_noteEvent _ _ hev fun e => ?_
  rw [happened_of_tables (fun h => hi h.1) (State.cliAt_congr hcli) fun k => by rw [State.slotAt_congr hslot], hconn]
  cases s.conn <;> simp

/-! ### The server's operations -/

theorem slotIndices_any {p : Fin 6 → Bool} : slotIndices.any p = true ↔ ∃ k, p k = true := by
  simp

theorem eventsTell_stopServer (s : State) : EventsTell .stop s s.stopServer := by
  refine .of_noteEvent .slotFreed (slotIndices.any fun k => (s.slotAt k).owner != 0) rfl fun e => ?_
  have howner (k) : (s.stopServer.slotAt k).owner = 0 := by rw [State.slotAt_stopServer]
  have hcli (id) : s.stopServer.cliAt id = s.cliAt id := rfl
  rw [slotIndices_any]
  cases e <;> simp [happened, howner, hcli]

theorem eventsTell_rxr (s : State) {m : ReplyMessage} (hm : m.senderId ≠ 0) (rx : BitVec 3) :
    EventsTell (.rxr rx) s ((s.recordReply m s.side.now).registerClaim m.senderId rx).1 := by
  have hcli (id) : (((s.recordReply m s.side.now).registerClaim m.senderId rx).1).cliAt id =
      if id = m.senderId then m.record s.side.now else s.cliAt id := by
    rw [State.cliAt_registerClaim, State.cliAt_recordReply s hm]
  have hev : (s.recordReply m s.side.now).events = (s.noteEvent .clientNew (!(s.cliAt m.senderId).valid)).events := by
    simp [State.recordReply]
  obtain ⟨ci, cl, hf⟩ := s.rxr_frame m s.side.now rx
  rw [hf] at hcli ⊢
  refine .of_noteEvent _ _ hev fun e => ?_
  cases e with
  | connUp | connDown => cases hc : s.conn <;> simp [happened, hc]
  | clientNew =>
    simp only [happened, hcli, true_and, Bool.not_eq_true']
    constructor
    · rintro ⟨id, hold, hnew⟩
      split at hnew
      · next hid => exact hid ▸ hold
      · cases hold.symm.trans hnew
    · exact fun hold => ⟨m.senderId, hold, by rw [if_pos rfl]; rfl⟩
  | clientTimeout =>
    simp only [happened, hcli, reduceCtorEq, false_and, iff_false]
    rintro ⟨id, hold, hnew⟩
    split at hnew
    · cases hnew
    · cases hold.symm.trans hnew
  | slotCollision | slotAssigned => simp [happened]
  | slotFreed =>
    simp only [happened, reduceCtorEq, false_and, iff_false]
    exact fun ⟨_, hold, hnew⟩ => hold hnew

/-- A sweep flags a record exactly where `timesOut` says so (R169). -/
theorem State.timesOut_iff {s : State} {now : Time} {c : CliRecord} :
    s.timesOut now c = true ↔ c.reclaimable = false ∧ (s.sweepRecord now c).reclaimable = true := by
  unfold State.sweepRecord State.timesOut
  cases c.reclaimable <;> simp

/-- `NEW_TIMEOUTS` is nonzero exactly when some robot's record is newly flagged (R169). -/
theorem State.newTimeouts_ne_zero_iff {s : State} {now : Time} :
    s.newTimeouts now ≠ 0 ↔ ∃ id, s.timesOut now (s.cliAt id) = true := by
  rw [State.newTimeouts, ← Nat.pos_iff_ne_zero, List.countP_pos_iff]
  constructor
  · rintro ⟨c, hc, ht⟩
    obtain ⟨n, hn, rfl⟩ := List.getElem_of_mem hc
    have hn : n < 255 := by simpa using hn
    refine ⟨BitVec.ofNat 8 (n + 1), ?_⟩
    have hid : (BitVec.ofNat 8 (n + 1)).toNat = n + 1 := by simp; omega
    rw [State.cliAt_of_ne fun h => by rw [h] at hid; simp at hid]
    simpa [hid] using ht
  · rintro ⟨id, ht⟩
    by_cases h : id = 0
    · subst h
      simpa [CliRecord.empty] using State.timesOut_valid ht
    · rw [State.cliAt_of_ne h] at ht
      exact ⟨_, by simp, ht⟩

theorem eventsTell_sweep (s : State) (now : Time) : EventsTell .sweep s (s.sweep now) := by
  refine .of_noteEvent .clientTimeout (s.newTimeouts now != 0) rfl fun e => ?_
  rw [bne_iff_ne, State.newTimeouts_ne_zero_iff]
  cases e with
  | connUp | connDown => cases hc : s.conn <;> simp [happened, hc]
  | clientNew => simp [happened, State.cliAt_sweep, State.sweepRecord]
  | clientTimeout => simp [happened, State.cliAt_sweep, State.timesOut_iff]
  | slotCollision | slotAssigned | slotFreed => simp [happened]

/-! ### `BUILD` -/

theorem State.claimAt_commitLoop (s : State) (k : Fin 6) : s.commitLoop.state.claimAt k = Claim.cleared := by
  have h := s.claimAt_commit k
  rwa [State.commit, State.claimAt_noteEvent, State.claimAt_noteEvent] at h

/-- `Commit` has collided slots exactly where there were collided claims (R173): a turn moves slot `k` from the claims
still to come to the list. -/
theorem State.commitLoop_collided (s : State) :
    s.commitLoop.collided ≠ [] ↔ ∃ k, (s.claimAt k).state = .collided := by
  have h := s.commitLoop_induction
    (P := fun acc => (acc.collided ≠ [] ∨ ∃ k, (acc.state.claimAt k).state = .collided) ↔
      ∃ k, (s.claimAt k).state = .collided) (by simp) ?_
  · simpa [State.claimAt_commitLoop, Claim.cleared] using h
  · intro acc k h
    rw [← h]
    have hlist : (commitSlot acc k).collided =
      if (acc.state.claimAt k).state = .collided then k :: acc.collided else acc.collided := rfl
    simp only [hlist, claimAt_commitSlot]
    by_cases hk : (acc.state.claimAt k).state = .collided
    · exact iff_of_true (.inl (by simp [hk])) (.inr ⟨k, hk⟩)
    · have hsame (j : Fin 6) : (if j = k then Claim.cleared else acc.state.claimAt j).state = .collided ↔
          (acc.state.claimAt j).state = .collided := by
        by_cases hj : j = k <;> simp [hj, hk, Claim.cleared]
      simp only [if_neg hk, hsame]

/-- What the turns of `Commit`'s loop over `s` keep (R173): claims are those of `s` or cleared, an owner stays, and the
list of assigned slots is nonempty where an open slot got an owner. -/
structure AssignedSoFar (s : State) (acc : CommitAcc) : Prop where
  claims : ∀ j, acc.state.claimAt j = s.claimAt j ∨ acc.state.claimAt j = Claim.cleared
  owners : ∀ j, (s.slotAt j).owner ≠ 0 → (acc.state.slotAt j).owner = (s.slotAt j).owner
  assigned : acc.assigned ≠ [] ↔ ∃ j, (s.slotAt j).owner = 0 ∧ (acc.state.slotAt j).owner ≠ 0

theorem AssignedSoFar.commitSlot {s : State} (hs : ServerInv s) {acc : CommitAcc} (h : AssignedSoFar s acc)
    (k : Fin 6) : AssignedSoFar s (commitSlot acc k) := by
  have hclaims (j) : (Machine.commitSlot acc k).state.claimAt j = s.claimAt j ∨
      (Machine.commitSlot acc k).state.claimAt j = Claim.cleared := by
    rw [claimAt_commitSlot]
    split
    · exact .inr rfl
    · exact h.claims j
  have hlist : (Machine.commitSlot acc k).assigned =
    if acc.state.grants k then k :: acc.assigned else acc.assigned := rfl
  by_cases hg : acc.state.grants k = true
  · obtain ⟨hone, hopen, _⟩ := (State.grants_iff _ _).mp hg
    have hold : (s.slotAt k).owner = 0 := by
      by_contra hne
      exact hne ((h.owners k hne).symm.trans hopen)
    have hid : (acc.state.claimAt k).id ≠ 0 := by
      rcases h.claims k with e | e <;> rw [e] at hone ⊢
      · exact (hs.claimantKnown k hone).1
      · cases hone
    refine ⟨hclaims, fun j hj => ?_, iff_of_true (by simp [hlist, hg]) ⟨k, hold, ?_⟩⟩
    · rw [slotAt_commitSlot, if_neg fun (hjk : j = k ∧ _) => hj (hjk.1 ▸ hold)]
      exact h.owners j hj
    · rw [slotAt_commitSlot, if_pos ⟨rfl, hg⟩]
      exact hid
  · have hslot (j) : (Machine.commitSlot acc k).state.slotAt j = acc.state.slotAt j := by
      rw [slotAt_commitSlot, if_neg fun hjk => hg hjk.2]
    refine ⟨hclaims, fun j hj => ?_, ?_⟩
    · rw [hslot]
      exact h.owners j hj
    · simp only [hslot, hlist, if_neg hg]
      exact h.assigned

/-- `Commit` has assigned slots exactly where a slot that was open has an owner after it (R173). -/
theorem State.commitLoop_assigned {s : State} (h : ServerInv s) :
    s.commitLoop.assigned ≠ [] ↔ ∃ k, (s.slotAt k).owner = 0 ∧ (s.commit.slotAt k).owner ≠ 0 := by
  have hloop : AssignedSoFar s s.commitLoop :=
    s.commitLoop_induction ⟨fun _ => .inl rfl, fun _ _ => rfl, by simp⟩ fun _ k hacc => hacc.commitSlot h k
  simp only [State.slotAt_commit]
  exact hloop.assigned

/-- The owner of slot `k` when `BUILD` arbitrates: freed where it is reclaimable (R172). -/
theorem State.owner_arbitrated (s : State) (now : Time) (k : Fin 6) :
    ((s.arbitrated now).slotAt k).owner = if (s.sweep now).ownerReclaimable k then 0 else (s.slotAt k).owner :=
  (s.sweep now).owner_freeSlots k

/-- Assembling keeps every owner (R174). -/
theorem State.owner_build (s : State) (now : Time) (k : Fin 6) :
    ((s.assigned now).consumeCommands.slotAt k).owner = ((s.arbitrated now).commit.slotAt k).owner := by
  rw [State.slotAt_consumeCommands, State.assigned]

/-- A slot that has an owner when `BUILD` begins is granted to nobody in that `BUILD`, not even when it is freed: there
is no claim on it (R45(b), R173). -/
theorem State.owner_build_of_owned {s : State} (h : ServerInv s) (now : Time) {k : Fin 6}
    (hk : (s.slotAt k).owner ≠ 0) :
    ((s.assigned now).consumeCommands.slotAt k).owner = ((s.arbitrated now).slotAt k).owner := by
  rw [State.owner_build]
  rcases (s.arbitrated now).slotAt_commit_cases k with e | ⟨hone, _⟩
  · rw [e]
  · have hone : (s.claimAt k).state = .one := hone
    exact absurd (h.claimsOpen k (by rw [hone]; nofun)) hk

/-- `BUILD` leaves an owned slot open exactly where its owner was reclaimable (R172). -/
theorem State.freed_in_build_iff {s : State} (h : ServerInv s) (now : Time) (k : Fin 6) :
    (s.sweep now).ownerReclaimable k = true ↔
      (s.slotAt k).owner ≠ 0 ∧ ((s.assigned now).consumeCommands.slotAt k).owner = 0 := by
  constructor
  · intro hr
    have hk : (s.slotAt k).owner ≠ 0 := by
      simp only [State.ownerReclaimable, Bool.and_eq_true, bne_iff_ne] at hr
      exact hr.1
    exact ⟨hk, by rw [State.owner_build_of_owned h now hk, State.owner_arbitrated, if_pos hr]⟩
  · rintro ⟨hk, ht⟩
    rw [State.owner_build_of_owned h now hk, State.owner_arbitrated] at ht
    by_contra hr
    rw [if_neg hr] at ht
    exact hk ht

/-- `BUILD` gives an open slot an owner exactly where `Commit` does so (R173). -/
theorem State.assigned_in_build_iff {s : State} (h : ServerInv s) (now : Time) (k : Fin 6) :
    ((s.arbitrated now).slotAt k).owner = 0 ∧ ((s.arbitrated now).commit.slotAt k).owner ≠ 0 ↔
      (s.slotAt k).owner = 0 ∧ ((s.assigned now).consumeCommands.slotAt k).owner ≠ 0 := by
  by_cases hk : (s.slotAt k).owner = 0
  · have harb : ((s.arbitrated now).slotAt k).owner = 0 := by rw [State.owner_arbitrated, hk, ite_self]
    rw [State.owner_build]
    exact and_congr_left' (iff_of_true harb hk)
  · rw [← State.owner_build, State.owner_build_of_owned h now hk]
    exact iff_of_false (fun h => h.2 h.1) (fun h => hk h.1)

/-- The four events that `BUILD` at `now` notes, and when (R169, R172, R173). -/
def State.notedInBuild (s : State) (now : Time) : Event → Bool
  | .clientTimeout => s.newTimeouts now != 0
  | .slotFreed => slotIndices.any (s.sweep now).ownerReclaimable
  | .slotAssigned => !(s.arbitrated now).commitLoop.assigned.isEmpty
  | .slotCollision => !(s.arbitrated now).commitLoop.collided.isEmpty
  | .connUp | .connDown | .clientNew => false

theorem State.getLsbD_events_build (s : State) (now : Time) (e : Event) :
    (s.assigned now).consumeCommands.events.getLsbD e.index =
      (s.events.getLsbD e.index || s.notedInBuild now e) := by
  have hloop : (s.arbitrated now).commitLoop.state.events =
      ((s.sweep now).noteEvent .slotFreed (slotIndices.any (s.sweep now).ownerReclaimable)).events :=
    (s.arbitrated now).commitLoop_events
  rw [State.consumeCommands_events, State.assigned, State.commit, State.getLsbD_noteEvent, State.getLsbD_noteEvent,
    hloop, State.getLsbD_noteEvent, State.sweep_events, State.getLsbD_noteEvent]
  cases e <;> simp [State.notedInBuild]

theorem eventsTell_build {s : State} (hs : s.serving .server) (h : ServerInv s) (now : Time) :
    EventsTell .build s (s.assigned now).consumeCommands := by
  have hconn : (s.assigned now).consumeCommands.conn = s.conn := by
    obtain ⟨_, _, _, _, hf⟩ := s.build_frame now
    rw [hf]
  have hcli := s.cliAt_build now
  intro e
  rw [State.getLsbD_events_build, Bool.or_eq_true]
  refine or_congr_right ?_
  cases e with
  | connUp | connDown =>
    exact iff_of_false nofun fun ⟨hold, hnew⟩ => by cases hold.symm.trans (hconn.symm.trans hnew)
  | clientNew =>
    refine iff_of_false nofun fun ⟨id, hold, hnew⟩ => ?_
    rw [hcli] at hnew
    cases hold.symm.trans hnew
  | clientTimeout =>
    simp only [State.notedInBuild, bne_iff_ne, State.newTimeouts_ne_zero_iff, State.timesOut_iff, happened, hcli]
  | slotCollision =>
    have hcollided := (s.arbitrated now).commitLoop_collided
    simp only [State.notedInBuild, Bool.not_eq_true', List.isEmpty_eq_false_iff, hcollided]
    exact ⟨fun hk => ⟨rfl, hs, hk⟩, fun hk => hk.2.2⟩
  | slotAssigned =>
    have hassigned := State.commitLoop_assigned (h.arbitrated hs.2 now)
    simp only [State.notedInBuild, Bool.not_eq_true', List.isEmpty_eq_false_iff, hassigned,
      State.assigned_in_build_iff h]
    exact ⟨fun hk => ⟨rfl, hk⟩, fun hk => hk.2⟩
  | slotFreed =>
    simp only [State.notedInBuild, slotIndices_any, State.freed_in_build_iff h, happened]

/-! ### Every operation -/

/-- Silence is noticed only while connected (R159). -/
theorem State.conn_and_silent (s : State) (now : Time) : (s.conn && s.silent now) = s.silent now := by
  unfold State.silent
  cases s.conn <;> simp

theorem Effect.eventsTell {s u : State} {i : Instr} (he : Effect s i u) (h : ServerInv s)
    (hi : ∀ v, i ≠ .csrw 0x02 v) : EventsTell i s u := by
  cases he with
  | unchanged hb => exact .of_quiet hb (fun _ => rfl) (fun _ => rfl) rfl rfl
  | start => exact .of_quiet nofun (fun _ => rfl) (fun _ => rfl) rfl rfl
  | stopClient => exact .of_connDown (b := true) nofun rfl rfl (by simp) (by simp)
  | stopServer => exact eventsTell_stopServer s
  | @csrw a v u hw =>
    have hev := State.csrWrite_events hw fun ha => hi v (ha ▸ rfl)
    obtain ⟨_, _, _, _, _, _, _, _, rfl⟩ := State.csrWrite_frame hw
    exact .of_quiet nofun (fun _ => rfl) (fun _ => rfl) rfl hev
  | rxcMatched => exact .of_connUp nofun rfl rfl rfl rfl
  | rxcClaimed => exact .of_connDown (b := true) nofun rfl rfl (by simp) (by simp)
  | rxcUnmatched => exact .of_connDown (b := true) nofun rfl rfl (by simp) (by simp)
  | ctick => exact .of_connDown (b := s.silent s.side.now) nofun rfl rfl rfl (by rw [State.conn_and_silent]; rfl)
  | rxr _ hf =>
    obtain ⟨_, _, _, _, _, _, hm⟩ := serverFront_eq_ok hf
    exact eventsTell_rxr s hm _
  | sweep => exact eventsTell_sweep s _
  | setcmd => exact .of_quiet nofun (fun _ => rfl) (s.owner_postCommand _ _) rfl rfl
  | build hs => exact eventsTell_build hs h _

/-- Settles O19: each bit is its old value or its event, whatever the operation; and the write of `EVENTS`, run. -/
theorem eventBitsSayWhatHappened : Obligations.EventBitsSayWhatHappened := by
  unfold Obligations.EventBitsSayWhatHappened
  refine ⟨fun i s t h hexec hi => ?_, fun s v => ?_⟩
  · obtain ⟨u, r, he, rfl⟩ := exec_effect hexec
    have hu := he.eventsTell h hi
    exact ⟨hu .connUp, hu .connDown, hu .clientNew, hu .clientTimeout, hu .slotCollision, hu .slotAssigned,
      hu .slotFreed⟩
  · exact exec_of_ok rfl rfl rfl rfl

end Sys2Proof.Machine
end

section
/-! PROOFS. The named operands (spec/20_memory.md R65, R66, spec/30_encoding.md R87, R88): O20, O21. -/

namespace Sys2Proof.Machine

open Sys2Proof

/-! ### What two sets of side operands that agree on the named ones have in common -/

theorem agreeOnNamed_refl (i : Instr) (o : SideOperands) : agreeOnNamed i o o := by
  cases i <;> simp [agreeOnNamed]

/-- The bytes of the operand are those below `len` (R66). -/
theorem SideOperands.bytes_congr {a b : SideOperands} (hlen : a.len = b.len)
    (hbuf : ∀ j : Fin 120, j.val < a.len.toNat → a.buf[j] = b.buf[j]) : a.bytes = b.bytes := by
  unfold SideOperands.bytes
  rw [← hlen]
  refine List.ext_getElem (by simp) fun n hn _ => ?_
  obtain ⟨hn, hn120⟩ : n < a.len.toNat ∧ n < 120 := by simpa using hn
  simpa using hbuf ⟨n, hn120⟩ hn

theorem SideOperands.tooLong_congr {a b : SideOperands} (hlen : a.len = b.len) : a.tooLong = b.tooLong := by
  unfold SideOperands.tooLong; rw [hlen]

/-- The operand checks look at the command word and at the named operands, and at nothing else of the state (R92). -/
theorem operandOutOfRange_congr {i : Instr} {s u : State} (h : agreeOnNamed i s.side u.side) :
    operandOutOfRange i u = operandOutOfRange i s := by
  cases i
  case nop | enc | enccf | encrp | start | stop | ctick | sweep | build | rdcli | rdslot => rfl
  case dec | deccf | decrp => exact (SideOperands.tooLong_congr h.1).symm
  case rxc | rxr => exact (SideOperands.tooLong_congr h.1.1).symm
  case csrr a =>
    simp only [operandOutOfRange, State.csrRead]
    split <;> rfl
  case csrw a v =>
    simp only [operandOutOfRange, State.csrWrite]
    split <;> rfl
  case setcmd =>
    have hmsg : s.side.cf.msg 0 = u.side.cf.msg 0 := h
    simp only [operandOutOfRange, hmsg]

theorem prologue_congr {i : Instr} {s u : State} (h : agreeOnNamed i s.side u.side)
    (hrole : wrongRole i u = wrongRole i s) (hstarted : notStarted i u = notStarted i s) :
    prologue i u = prologue i s := by
  unfold prologue
  rw [hrole, hstarted, operandOutOfRange_congr h]

/-! ### The codec operations and `NOP` -/

/-- The operations that read and write no state (R65). -/
def isPure : Instr → Bool
  | .nop | .enc _ _ _ | .dec | .enccf | .deccf | .encrp _ _ | .decrp => true
  | _ => false

theorem prologue_of_isPure {i : Instr} (hi : isPure i = true) {s u : State} (h : agreeOnNamed i s.side u.side) :
    prologue i u = prologue i s := by
  cases i
  case start | stop | csrr | csrw | rxc | ctick | rxr | sweep | setcmd | build | rdcli | rdslot => cases hi
  all_goals exact prologue_congr h rfl rfl

/-- A pure body hands on the state it was given, and its results or its status come from the named operands alone. -/
theorem bodyOf_of_isPure {i : Instr} (hi : isPure i = true) {s u : State} (h : agreeOnNamed i s.side u.side) :
    ∃ b : Except Status Result, bodyOf i s = b.map (s, ·) ∧ bodyOf i u = b.map (u, ·) := by
  cases i
  case start | stop | csrr | csrw | rxc | ctick | rxr | sweep | setcmd | build | rdcli | rdslot => cases hi
  case nop | encrp => exact ⟨.ok _, rfl, rfl⟩
  case enccf =>
    have hcf : s.side.cf = u.side.cf := h
    refine ⟨.ok (Result.ofBytes 0 (packCF s.side.cf)), rfl, ?_⟩
    rw [hcf]
    rfl
  case enc | dec | deccf | decrp =>
    have hbytes := SideOperands.bytes_congr h.1 h.2
    simp only [bodyOf, encBody, decBody, deccfBody, decrpBody, hbytes]
    split
    · exact ⟨.error _, rfl, rfl⟩
    · exact ⟨.ok _, rfl, rfl⟩

/-- A pure operation gives two states the same response and changes nothing else of either (R65). -/
theorem exec_of_isPure {i : Instr} (hi : isPure i = true) {s u : State} (h : agreeOnNamed i s.side u.side) :
    ∃ r : Response, exec i s = .next { s with rsp := some r } ∧ exec i u = .next { u with rsp := some r } := by
  obtain ⟨b, hs, hu⟩ := bodyOf_of_isPure hi h
  simp only [exec_eq_serve, State.serve, State.complete, prologue_of_isPure hi h, hs, hu]
  cases prologue i s with
  | error e => exact ⟨.raised e, rfl, rfl⟩
  | ok =>
    cases b with
    | error e => exact ⟨.raised e, rfl, rfl⟩
    | ok r => exact ⟨.ok r, rfl, rfl⟩

/-- Settles O20: equal operands agree on the named ones, and a pure operation answers from those alone. -/
theorem codecOperationsArePure : Obligations.CodecOperationsArePure := by
  unfold Obligations.CodecOperationsArePure
  intro s u address port typ _ hside i hi
  have hpure : isPure i = true := by
    simp only [List.mem_cons, List.not_mem_nil, or_false] at hi
    rcases hi with rfl | rfl | rfl | rfl | rfl | rfl | rfl <;> rfl
  exact exec_of_isPure hpure (hside ▸ agreeOnNamed_refl i s.side)

/-! ### What changes no table passes through the server's functions -/

/-- `f` changes no table of the server, and the writes of the tables and of `EVENTS` commute with it: it replaces only
fields that the tables' operations neither read nor write. -/
structure PassesTables (f : State → State) : Prop where
  cliAt : ∀ s id, (f s).cliAt id = s.cliAt id
  slotAt : ∀ s k, (f s).slotAt k = s.slotAt k
  claimAt : ∀ s k, (f s).claimAt k = s.claimAt k
  setCli : ∀ s id r, (f s).setCli id r = f (s.setCli id r)
  setSlot : ∀ s k e, (f s).setSlot k e = f (s.setSlot k e)
  setClaim : ∀ s k c, (f s).setClaim k c = f (s.setClaim k c)
  noteEvent : ∀ s e b, (f s).noteEvent e b = f (s.noteEvent e b)

namespace PassesTables

variable {f : State → State}

theorem ownedSlot (hf : PassesTables f) (s : State) (id : RobotId) : (f s).ownedSlot id = s.ownedSlot id := by
  simp only [State.ownedSlot, hf.slotAt]

theorem recordReply (hf : PassesTables f) (s : State) (m : ReplyMessage) (now : Time) :
    (f s).recordReply m now = f (s.recordReply m now) := by
  simp only [State.recordReply, hf.cliAt, hf.setCli, hf.noteEvent]

theorem registerClaim (hf : PassesTables f) (s : State) (id : RobotId) (rx : BitVec 3) :
    (f s).registerClaim id rx = (f (s.registerClaim id rx).1, (s.registerClaim id rx).2) := by
  simp only [State.registerClaim, hf.ownedSlot, hf.slotAt, hf.claimAt, hf.setClaim]
  split
  · rfl
  · split
    · rfl
    · split
      · rfl
      · split
        · rfl
        · split <;> rfl
        · rfl

theorem grants (hf : PassesTables f) (s : State) (k : Fin 6) : (f s).grants k = s.grants k := by
  simp only [State.grants, hf.claimAt, hf.slotAt, hf.cliAt, hf.ownedSlot]

theorem grantSlot (hf : PassesTables f) (s : State) (k : Fin 6) : (f s).grantSlot k = f (s.grantSlot k) := by
  simp only [State.grantSlot, hf.grants, hf.slotAt, hf.claimAt, hf.setSlot]
  split <;> rfl

/-- `Commit`'s loop with `f` applied to its machine. -/
def onState (f : State → State) (acc : CommitAcc) : CommitAcc := { acc with state := f acc.state }

theorem commitSlot (hf : PassesTables f) (acc : CommitAcc) (k : Fin 6) :
    Machine.commitSlot (onState f acc) k = onState f (Machine.commitSlot acc k) := by
  simp only [Machine.commitSlot, onState, hf.grants, hf.grantSlot, hf.claimAt, hf.setClaim]

theorem commitLoop (hf : PassesTables f) (s : State) : (f s).commitLoop = onState f s.commitLoop :=
  List.foldl_hom (onState f) (g₁ := Machine.commitSlot) (l := slotIndices)
    (init := { state := s, assigned := [], collided := [] }) hf.commitSlot

theorem commit (hf : PassesTables f) (s : State) : (f s).commit = f s.commit := by
  simp only [State.commit, hf.commitLoop, onState, hf.noteEvent]

end PassesTables

/-! ### Every operation -/

/-- The state with other sampled operands (R48). -/
def State.withSide (s : State) (o : SideOperands) : State := { s with side := o }

/-- What a body answers, with the sampled operands replaced in the state it leaves. -/
def withSideIn (o : SideOperands) (b : Except Status (State × Result)) : Except Status (State × Result) :=
  b.map fun p => (p.1.withSide o, p.2)

@[simp] theorem State.withSide_side (s : State) (o : SideOperands) : (s.withSide o).side = o := rfl
@[simp] theorem State.withSide_cfg (s : State) (o : SideOperands) : (s.withSide o).cfg = s.cfg := rfl

theorem passesTables_withSide (o : SideOperands) : PassesTables (State.withSide · o) where
  cliAt _ _ := rfl
  slotAt _ _ := rfl
  claimAt _ _ := rfl
  setCli s id r := by unfold State.setCli; split <;> rfl
  setSlot _ _ _ := rfl
  setClaim _ _ _ := rfl
  noteEvent _ _ _ := rfl

section

variable {s : State} {o : SideOperands}

theorem csrrBody_withSide (a : BitVec 8) : csrrBody a (s.withSide o) = withSideIn o (csrrBody a s) := by
  have hread : (s.withSide o).csrRead a = s.csrRead a := rfl
  unfold csrrBody
  rw [hread]
  cases s.csrRead a <;> rfl

theorem csrwBody_withSide (a : BitVec 8) (v : Half) :
    csrwBody a v (s.withSide o) = withSideIn o (csrwBody a v s) := by
  have hwrite : (s.withSide o).csrWrite a v = (s.csrWrite a v).map (State.withSide · o) := by
    unfold State.csrWrite
    split <;> rfl
  unfold csrwBody
  rw [hwrite]
  cases s.csrWrite a v <;> rfl

theorem rxcAccepted_withSide (hnow : s.side.now = o.now) (hrnd : s.side.rnd = o.rnd) (F : ControlFrame) :
    rxcAccepted (s.withSide o) F = ((rxcAccepted s F).1.withSide o, (rxcAccepted s F).2) := by
  have hid : (s.withSide o).ownId = s.ownId := rfl
  have hclaim : claimSlot (s.withSide o) F o.rnd = claimSlot s F o.rnd := rfl
  simp only [rxcAccepted, State.withSide_side, hnow, hrnd, hid, hclaim]
  cases matchSlot F s.ownId with
  | some k => rfl
  | none => cases claimSlot s F o.rnd <;> rfl

theorem rxcBody_withSide (hbytes : s.side.bytes = o.bytes) (hnow : s.side.now = o.now) (hrnd : s.side.rnd = o.rnd) :
    rxcBody (s.withSide o) = withSideIn o (rxcBody s) := by
  simp only [rxcBody, State.withSide_cfg, State.withSide_side, hbytes, rxcAccepted_withSide hnow hrnd]
  split <;> rfl

theorem ctickBody_withSide (hnow : s.side.now = o.now) : ctickBody (s.withSide o) = withSideIn o (ctickBody s) := by
  obtain ⟨r, h, hr⟩ := ctickBody_eq s
  obtain ⟨r', h', hr'⟩ := ctickBody_eq (s.withSide o)
  rw [h, h', hr, hr', State.withSide_side, hnow]
  rfl

theorem rxrBody_withSide (hbytes : s.side.bytes = o.bytes) (hnow : s.side.now = o.now) (rx : BitVec 3) :
    rxrBody rx (s.withSide o) = withSideIn o (rxrBody rx s) := by
  have hp := passesTables_withSide o
  have hcli (id) : (s.withSide o).cliAt id = s.cliAt id := rfl
  simp only [rxrBody, rxrAccepted, State.withSide_cfg, State.withSide_side, hbytes, hnow, hp.recordReply,
    hp.registerClaim, hcli]
  split <;> rfl

theorem setcmdBody_withSide (hmsg : s.side.cf.msg 0 = o.cf.msg 0) :
    setcmdBody (s.withSide o) = withSideIn o (setcmdBody s) := by
  simp only [setcmdBody, State.withSide_side, hmsg, (passesTables_withSide o).ownedSlot]
  cases s.ownedSlot (o.cf.msg 0).recipientId <;> rfl

theorem buildBody_withSide (hnow : s.side.now = o.now) : buildBody (s.withSide o) = withSideIn o (buildBody s) := by
  have hp := passesTables_withSide o
  have hmask : ((s.withSide o).sweep o.now).reclaimMask = (s.sweep o.now).reclaimMask := rfl
  have harb : (s.withSide o).arbitrated o.now = (s.arbitrated o.now).withSide o := rfl
  have hloop := hp.commitLoop (s.arbitrated o.now)
  have hassigned : (s.withSide o).assigned o.now = (s.assigned o.now).withSide o := hp.commit (s.arbitrated o.now)
  have hframe (u : State) : (u.withSide o).nextFrame = u.nextFrame := rfl
  have hconsume (u : State) : (u.withSide o).consumeCommands = u.consumeCommands.withSide o := rfl
  rw [buildBody_eq, buildBody_eq, State.withSide_side, State.withSide_cfg, hnow, hassigned, hmask, harb, hloop, hframe,
    hconsume]
  simp only [withSideIn, Except.map, PassesTables.onState]

end

/-- Every body answers the same, and leaves the same state but for the sampled operands, whatever the operands that it
does not name are (R87, R88). -/
theorem bodyOf_withSide {i : Instr} {s : State} {o : SideOperands} (h : agreeOnNamed i s.side o) :
    bodyOf i (s.withSide o) = withSideIn o (bodyOf i s) := by
  cases hi : isPure i with
  | true =>
    obtain ⟨b, hs, hu⟩ := bodyOf_of_isPure hi (u := s.withSide o) h
    rw [hs, hu]
    cases b <;> rfl
  | false =>
    cases i <;> simp only [agreeOnNamed, bodyOf] at h ⊢
    case nop | enc | dec | enccf | deccf | encrp | decrp => cases hi
    case start => rfl
    case stop =>
      simp only [stopBody, State.withSide_cfg]
      split <;> rfl
    case csrr a => exact csrrBody_withSide a
    case csrw a v => exact csrwBody_withSide a v
    case rxc =>
      obtain ⟨⟨hlen, hbuf⟩, hnow, hrnd⟩ := h
      exact rxcBody_withSide (SideOperands.bytes_congr hlen hbuf) hnow hrnd
    case ctick => exact ctickBody_withSide h
    case rxr rx =>
      obtain ⟨⟨hlen, hbuf⟩, hnow⟩ := h
      exact rxrBody_withSide (SideOperands.bytes_congr hlen hbuf) hnow rx
    case sweep =>
      simp only [sweepBody, State.withSide_side, h]
      rfl
    case setcmd => exact setcmdBody_withSide h
    case build => exact buildBody_withSide h
    case rdcli id =>
      simp only [rdcliBody, State.withSide_side, h]
      rfl
    case rdslot k =>
      simp only [rdslotBody]
      split <;> rfl

/-- Settles O21: neither the prologue nor the body looks at an operand that the operation does not name. -/
theorem unnamedOperandsAreIgnored : Obligations.UnnamedOperandsAreIgnored := by
  unfold Obligations.UnnamedOperandsAreIgnored
  intro i s t o hagree h
  show exec i (s.withSide o) = .next (t.withSide o)
  have hp : prologue i (s.withSide o) = prologue i s := prologue_congr hagree rfl rfl
  rw [exec_eq_serve] at h ⊢
  unfold State.serve State.complete at h ⊢
  rw [hp, bodyOf_withSide hagree]
  obtain rfl := Host.Outcome.next.inj h
  cases prologue i s with
  | error e => rfl
  | ok => cases bodyOf i s <;> rfl

end Sys2Proof.Machine
end

section
/-! PROOFS. The command word, its decoder and its encoder (spec/30_encoding.md R87, R88, R90, R91): O2, O3, O4, O1. -/

namespace Sys2Proof

/-! ### The decoder gives back what was encoded -/

/-- The operand `port` of `ENC` stands in bits 7:4 of `imm` (R88). -/
theorem extractLsb'_port (port typ : BitVec 4) : (0#8 ++ port ++ typ).extractLsb' 4 4 = port := by
  rw [BitVec.extractLsb'_append_eq_of_le (by omega)]
  exact BitVec.extractLsb'_append_eq_right

/-- The operand in bits 3:0 of `imm`: `type` of `ENC`, `hardware_revision` of `ENCRP` (R88). -/
theorem extractLsb'_lowNibble (rest : BitVec 12) (v : BitVec 4) : (rest ++ v).extractLsb' 0 4 = v :=
  BitVec.extractLsb'_append_eq_right

theorem decode_encode (i : Instr) : decode (encode i) = .ok i := by
  cases i
  case nop | dec | enccf | deccf | decrp | start | stop | rxc | ctick | sweep | setcmd | build => rfl
  case csrr | csrw | rxr | rdcli | rdslot => simp [decode, encode]
  case enc address port typ => simp [decode, encode, extractLsb'_port, extractLsb'_lowNibble (0#8 ++ port)]
  case encrp => simp [decode, encode, extractLsb'_lowNibble]

/-- Settles O2, operation by operation: the fields of the encoded word, and in `imm` the operands. -/
theorem decodeOfEncodeIsTheOperation : Obligations.DecodeOfEncodeIsTheOperation := by
  unfold Obligations.DecodeOfEncodeIsTheOperation
  exact decode_encode

/-! ### A word and the bits its operation names -/

/-- Masking with ones below zeros keeps the low part. -/
theorem and_zero_append_allOnes {m n : Nat} (x : BitVec (m + n)) :
    x &&& (0#m ++ BitVec.allOnes n) = 0#m ++ x.extractLsb' 0 n := by
  ext i hi
  simp only [BitVec.getElem_and, BitVec.getElem_append]
  split <;> simp [BitVec.getLsbD_eq_getElem hi]

/-- The bits of `imm` that `ENCRP` names hold its operand (R88). -/
theorem and_lowNibble (imm : Half) : imm &&& 0x000F#16 = 0#12 ++ imm.extractLsb' 0 4 :=
  and_zero_append_allOnes (m := 12) (n := 4) imm

/-- The bits of `imm` that `ENC` names hold its two operands (R88). -/
theorem and_lowByte (imm : Half) : imm &&& 0x00FF#16 = 0#8 ++ imm.extractLsb' 4 4 ++ imm.extractLsb' 0 4 := by
  have hbyte : imm.extractLsb' 4 4 ++ imm.extractLsb' 0 4 = imm.extractLsb' 0 8 :=
    BitVec.extractLsb'_append_extractLsb'_eq_extractLsb' rfl
  rw [BitVec.append_assoc, hbyte]
  exact and_zero_append_allOnes (m := 8) (n := 8) imm

/-- A word that selects an operation is the operation's encoding in the bits the operation names. -/
theorem and_namedBits_of_decode {cw : Word} {i : Instr} (h : decode cw = .ok i) : cw &&& namedBits i = encode i := by
  have op_eq {n : Nat} (hn : (opField cw).toNat = n) : opField cw = BitVec.ofNat 5 n := by rw [← hn]; simp
  rw [← commandWord_fields cw]
  unfold decode at h
  split at h <;> cases h
  all_goals
    next hop =>
      simp only [namedBits, encode, commandWord_and, BitVec.and_allOnes, BitVec.ofNat_eq_ofNat, BitVec.and_zero,
        op_eq hop, and_lowByte, and_lowNibble]

/-- Settles O3: masking acts on the four fields of the word apart. -/
theorem encodeOfDecodeIsTheNamedBits : Obligations.EncodeOfDecodeIsTheNamedBits := by
  unfold Obligations.EncodeOfDecodeIsTheNamedBits
  exact fun _ _ h => (and_namedBits_of_decode h).symm

/-- Every operation names all of `op` (R87). -/
theorem opField_and_namedBits (cw : Word) (i : Instr) : opField (cw &&& namedBits i) = opField cw := by
  rw [← commandWord_fields cw]
  cases i <;> simp only [namedBits, commandWord_and, opField_commandWord, BitVec.and_allOnes]

/-- Which operation a word selects, its operands apart, and so which bits are named, is a matter of `op` alone (R87). -/
theorem decode_of_opField_eq {cw cw' : Word} {i : Instr} (hop : opField cw' = opField cw) (h : decode cw = .ok i) :
    ∃ j, decode cw' = .ok j ∧ namedBits j = namedBits i := by
  unfold decode at h ⊢
  rw [hop]
  split at h <;> cases h <;> exact ⟨_, rfl, rfl⟩

/-- Bits that the selected operation does not name are ignored (R87, R91). -/
theorem decode_of_and_namedBits_eq {cw cw' : Word} {i : Instr} (h : decode cw = .ok i)
    (hnamed : cw &&& namedBits i = cw' &&& namedBits i) : decode cw' = .ok i := by
  have hop : opField cw' = opField cw := by
    rw [← opField_and_namedBits cw' i, ← hnamed, opField_and_namedBits]
  obtain ⟨j, hj, hbits⟩ := decode_of_opField_eq hop h
  have hij : encode j = encode i := by
    calc encode j = cw' &&& namedBits j := (and_namedBits_of_decode hj).symm
      _ = cw &&& namedBits i := by rw [hbits, hnamed]
      _ = encode i := and_namedBits_of_decode h
  rw [hj, ← decode_encode j, hij, decode_encode]

/-! ### Reserved `op` codes -/

/-- The `op` codes that select no operation (R91). -/
def reservedOps : List Nat := [0x07, 0x0C, 0x0D, 0x0E, 0x0F, 0x12, 0x13, 0x14, 0x15, 0x16, 0x17, 0x1E, 0x1F]

/-- `op` is what stands above bit 26 (R87). -/
theorem toNat_opField (cw : Word) : (opField cw).toNat = cw.toNat / 2 ^ 27 := by
  have := cw.isLt
  simp only [opField, BitVec.extractLsb'_toNat, Nat.shiftRight_eq_div_pow]
  omega

/-- A word selects no operation exactly when its `op` is reserved (R91). -/
theorem decode_eq_error_iff (cw : Word) :
    (∃ op, decode cw = .error (.reservedOp op)) ↔ (opField cw).toNat ∈ reservedOps := by
  have hlt := (opField cw).isLt
  unfold decode reservedOps
  split
  case h_20 =>
    refine iff_of_true ⟨_, rfl⟩ ?_
    simp only [List.mem_cons, List.not_mem_nil, or_false]
    simp only [imp_false] at *
    omega
  all_goals
    next hop => simp [hop]

end Sys2Proof

namespace Sys2Proof.Machine

open Sys2Proof

theorem runCommand_of_error {cw : Word} {e : DecodeError} (h : decode cw = .error e) (s : State) :
    runCommand cw s = .next (s.raise .illegalOp) := by
  unfold runCommand; rw [h]

/-- Settles O4: the decoder refuses the reserved codes, and what it refuses raises in the step that accepts it. -/
theorem reservedOpCodesCompleteIllegalOp : Obligations.ReservedOpCodesCompleteIllegalOp := by
  unfold Obligations.ReservedOpCodesCompleteIllegalOp
  have hreserved (cw : Word) : (∃ op, decode cw = .error (.reservedOp op)) ↔ cw.toNat / 2 ^ 27 ∈ reservedOps := by
    rw [← toNat_opField]
    exact decode_eq_error_iff cw
  refine ⟨hreserved, ?_, fun _ _ _ => decode_of_and_namedBits_eq⟩
  rintro s e rest ⟨hin, hrst, hvalid, hrsp⟩ hop
  obtain ⟨op, hdec⟩ := (hreserved e.cmdWord).mpr hop
  rw [step_of_inputs hin, stepEdge_of_command hrst (by exact hrsp) hvalid, runCommand_of_error hdec]
  rfl

/-- Settles O1: each word is evaluated. -/
theorem wordsOfTheOperationMapDecode : Obligations.WordsOfTheOperationMapDecode := by
  unfold Obligations.WordsOfTheOperationMapDecode
  decide

end Sys2Proof.Machine
end

section
/-! PROOFS. Operand values out of range (spec/30_encoding.md R88, R92, spec/60_exceptions.md R194): O13, O14. -/

namespace Sys2Proof.Machine

open Sys2Proof

/-! ### The operand check, reached and failed -/

/-- An operation that passes the first two checks of the prologue and fails the third raises `BAD_OPERAND` (R140). -/
theorem exec_badOperand {i : Instr} {s : State} (hrole : wrongRole i s = false) (hstarted : notStarted i s = false)
    (hop : operandOutOfRange i s = true) : exec i s = .next (s.raise .badOperand) := by
  rw [exec_eq_serve]
  exact State.serve_prologue (by simp [prologue, hrole, hstarted, hop])

theorem wrongRole_eq_false {i : Instr} {s : State} {r : Role} (hi : servedBy i = some r) (hr : s.cfg.role = r) :
    wrongRole i s = false := by
  simp [wrongRole, hi, hr]

theorem notStarted_eq_false {i : Instr} {s : State} (hs : s.started = true) : notStarted i s = false := by
  simp [notStarted, hs]

/-- On a core that serves the operation's role, `BAD_OPERAND` is a matter of the operands alone (R141, R142). -/
theorem State.serving.exec_badOperand {i : Instr} {s : State} {r : Role} (hs : s.serving r) (hi : servedBy i = some r)
    (hop : operandOutOfRange i s = true) : exec i s = .next (s.raise .badOperand) :=
  Machine.exec_badOperand (wrongRole_eq_false hi hs.1) (notStarted_eq_false hs.2) hop

/-! ### What is out of range -/

theorem SideOperands.tooLong_iff (o : SideOperands) : o.tooLong = true ↔ 120 < o.len.toNat := decide_eq_true_iff

theorem slotOf_eq_none_of_le {k : BitVec 3} (h : 6 ≤ k.toNat) : slotOf k = none := by
  unfold slotOf; rw [dif_neg (by omega)]

/-- No register has an address above 0x09 (R31, R146). -/
theorem State.csrRead_eq_none {a : BitVec 8} (h : 0x0A ≤ a.toNat) (s : State) : s.csrRead a = none := by
  unfold State.csrRead
  split
  case h_11 => rfl
  all_goals omega

/-- No register with an address above 0x09 can be written (R147). -/
theorem State.csrWrite_eq_none {a : BitVec 8} (h : 0x0A ≤ a.toNat) (s : State) (v : Half) : s.csrWrite a v = none := by
  unfold State.csrWrite
  split
  case h_9 => rfl
  all_goals omega

/-! ### A reply slot 6 or 7 -/

/-- A reply whose slot is unknown registers no claim (R92, R167). -/
theorem State.registerClaim_of_unknown (s : State) (id : RobotId) {rx : BitVec 3} (h : slotOf rx = none) :
    s.registerClaim id rx = (s, 0) := by
  unfold State.registerClaim
  rw [h]
  exact ite_self _

@[simp] theorem State.claim_recordReply (s : State) (m : ReplyMessage) (now : Time) :
    (s.recordReply m now).claim = s.claim := by
  simp [State.recordReply]

/-- `RXR` with an unknown slot leaves the claim table alone, whatever its bytes are (R92). -/
theorem exec_rxr_claim {s t : State} {rx : BitVec 3} (h : slotOf rx = none) (he : exec (.rxr rx) s = .next t) :
    t.claim = s.claim := by
  rcases exec_next he with ⟨e, _, rfl⟩ | ⟨u, r, _, hb, rfl⟩
  · rfl
  · obtain ⟨m, _, hm⟩ := rxrBody_eq_ok hb
    rw [rxrAccepted, State.registerClaim_of_unknown _ _ h] at hm
    obtain ⟨rfl, _⟩ := Prod.mk.inj hm
    exact s.claim_recordReply m s.side.now

/-- Settles O13: five operations fail their operand check, and `RXR` takes 6 and 7 for an unknown slot. -/
theorem operandsOutOfRange : Obligations.OperandsOutOfRange := by
  unfold Obligations.OperandsOutOfRange
  refine ⟨fun s k hr hk => ?_, fun s k _ hk => ?_, fun s hr => ?_, fun s a ha => ?_, fun s a v ha => ?_,
    fun s hs hid => ?_⟩
  case refine_1 =>
    refine exec_badOperand (wrongRole_eq_false rfl hr) rfl ?_
    simp [operandOutOfRange, slotOf_eq_none_of_le hk]
  case refine_2 =>
    obtain ⟨t, ht⟩ := exec_answers (.rxr k) s
    exact ⟨t, ht, exec_rxr_claim (slotOf_eq_none_of_le hk) ht⟩
  case refine_3 => exact exec_badOperand (wrongRole_eq_false rfl hr) rfl rfl
  case refine_4 => exact exec_badOperand rfl rfl (by simp [operandOutOfRange, s.csrRead_eq_none ha])
  case refine_5 => exact exec_badOperand rfl rfl (by simp [operandOutOfRange, s.csrWrite_eq_none ha])
  case refine_6 => exact hs.exec_badOperand rfl (by simp [operandOutOfRange, hid])

/-- Settles O14: the five operations that decode the buffer have `len` above 120 out of range. -/
theorem lengthAboveTheBufferIsBadOperand : Obligations.LengthAboveTheBufferIsBadOperand := by
  unfold Obligations.LengthAboveTheBufferIsBadOperand
  intro s hlen
  have hlong : s.side.tooLong = true := s.side.tooLong_iff.mpr hlen
  refine ⟨fun i hi => ?_, fun hs => hs.exec_badOperand rfl hlong, fun hs rx => hs.exec_badOperand rfl hlong⟩
  simp only [List.mem_cons, List.not_mem_nil, or_false] at hi
  rcases hi with rfl | rfl | rfl <;> exact exec_badOperand rfl rfl hlong

end Sys2Proof.Machine
end

section
/-! PROOFS. The pseudo-operations (spec/30_encoding.md R96): O31. -/

namespace Sys2Proof.Machine

open Sys2Proof

/-! ### `ENC` with the control header, of a payload just packed -/

theorem State.respond_inj {s : State} {r r' : Result} : s.respond r = s.respond r' ↔ r = r' :=
  ⟨fun h => Response.ok.inj (Option.some.inj (congrArg State.rsp h)), congrArg s.respond⟩

/-- An operation that was served ended with the results of its body (R140). -/
theorem result_of_exec {i : Instr} {s u : State} {r r' : Result} (he : exec i s = .next (u.respond r))
    (he' : exec i s = .next (u.respond r')) : r = r' :=
  State.respond_inj.mp (Host.Outcome.next.inj (he.symm.trans he'))

theorem exec_enccf (s : State) : exec .enccf s = .next (s.respond (Result.ofBytes 0 (packCF s.side.cf))) :=
  exec_of_ok rfl rfl rfl rfl

theorem exec_encrp (id : RobotId) (hw : BitVec 4) (s : State) : exec (.encrp id hw) s =
    .next (s.respond (Result.ofBytes 0 (packRP { senderId := id, hardwareRevision := hw }))) :=
  exec_of_ok rfl rfl rfl rfl

/-- `ENC` with the control header sends what `Encode` makes of that header and the bytes it is given (R96, R111). -/
theorem exec_enc_control {u : State} {P W : List Byte} (hu : u.side.bytes = P)
    (h : encodeFrame (controlHeader u.cfg) P = .ok W) :
    exec (.enc 1 u.cfg.portControl u.cfg.typeControl) u = .next (u.respond (Result.ofBytes 0 W)) := by
  have h : encodeFrame { address := 1, port := u.cfg.portControl, typ := u.cfg.typeControl } P = .ok W := h
  exact exec_of_ok rfl rfl rfl (by simp only [bodyOf, encBody, hu, h])

theorem encReply_eq (cfg : Config) (m : ReplyMessage) :
    encReply cfg m = .ok [4, 1, cfg.portControl ++ cfg.typeControl, m.senderId, m.hardwareRevision ++ 0#4] := rfl

/-! ### Register accesses -/

theorem exec_csrw {s t : State} {a : BitVec 8} {v : Half} (h : s.csrWrite a v = some t) :
    exec (.csrw a v) s = .next (t.respond (Result.ofWord 0)) :=
  exec_of_ok rfl rfl (by simp [operandOutOfRange, h]) (by simp only [bodyOf, csrwBody, h])

theorem exec_csrr {s : State} {a : BitVec 8} {v : Half} (h : s.csrRead a = some v) :
    exec (.csrr a) s = .next (s.respond (Result.ofWord (rwField 0 v))) :=
  exec_of_ok rfl rfl (by simp [operandOutOfRange, h]) (by simp only [bodyOf, csrrBody, h])

/-- A robot id written to `OWN_ID` is stored whole (R31, R147). -/
theorem State.csrWrite_ownId (s : State) (id : RobotId) :
    s.csrWrite 0x04 (id.setWidth 16) = some { s with ownId := id } := by
  have hid : (id.setWidth 16).extractLsb' 0 8 = id := by
    rw [BitVec.extractLsb'_setWidth_of_le (by omega), BitVec.extractLsb'_eq_self]
  exact congrArg (fun v : RobotId => some { s with ownId := v }) hid

/-- The value of `EVENTS` in a response word (R34, R89). -/
theorem rwField_events (ev : BitVec 7) : rwField 0 (ev.setWidth 16) = 0#25 ++ ev := by
  unfold rwField
  rw [BitVec.shiftLeft_zero, BitVec.setWidth_setWidth (u := 7) (v := 16) (by omega),
    BitVec.setWidth_eq_append (v := 7) (by omega)]
  rfl

/-- Settles O31: the first operation of an expansion gives the packed bytes, the second frames them, and the others are
accesses of existing registers. -/
theorem pseudoOperationsAreTheirExpansions : Obligations.PseudoOperationsAreTheirExpansions := by
  unfold Obligations.PseudoOperationsAreTheirExpansions
  refine ⟨fun s u P r he hr hu => ?_, fun s u id hw P r he hr hu => ?_, fun s id => ?_, fun s mask => ?_, fun s => ?_⟩
  case refine_1 =>
    obtain rfl := result_of_exec he (exec_enccf s)
    have hP : packCF s.side.cf = P := Option.some.inj hr
    have hW := encCtl_eq u.cfg s.side.cf
    exact ⟨_, hW, exec_enc_control (hu.trans hP.symm) hW⟩
  case refine_2 =>
    obtain rfl := result_of_exec he (exec_encrp id hw s)
    have hP : packRP { senderId := id, hardwareRevision := hw } = P := Option.some.inj hr
    have hW := encReply_eq u.cfg { senderId := id, hardwareRevision := hw }
    exact ⟨_, hW, exec_enc_control (hu.trans hP.symm) hW⟩
  case refine_3 => exact exec_csrw (s.csrWrite_ownId id)
  case refine_4 => exact exec_csrw rfl
  case refine_5 => exact (exec_csrr rfl).trans (by rw [rwField_events])

end Sys2Proof.Machine
end

section
/-! PROOFS. The frame codec (spec/40_frame_codec.md R111, R112, R113): O25, O23, O24. -/

namespace Sys2Proof.Machine

open Sys2Proof

/-! ### The bytes of the operand -/

theorem SideOperands.length_bytes (o : SideOperands) : o.bytes.length = min o.len.toNat 120 := by
  simp [SideOperands.bytes]

theorem SideOperands.length_bytes_of_le {o : SideOperands} (h : o.len.toNat ≤ 120) :
    o.bytes.length = o.len.toNat := by
  rw [SideOperands.length_bytes, Nat.min_eq_left h]

theorem SideOperands.tooLong_eq_false {o : SideOperands} (h : o.len.toNat ≤ 120) : o.tooLong = false := by
  rw [← Bool.not_eq_true, SideOperands.tooLong_iff]
  omega

/-- A byte below `len` is the buffer's (R48, R66). -/
theorem SideOperands.getD_bytes {o : SideOperands} {n : Nat} (hn : n < o.len.toNat) (h : n < 120) :
    o.bytes.getD n 0 = o.buf[n] := by
  simp [SideOperands.bytes, List.getD, hn, h]

/-! ### `Encode` and `Decode` -/

/-- The two nibbles of a header byte make the byte (R81). -/
theorem extractLsb'_hi_append_lo (b : Byte) : (b.extractLsb' 4 4 ++ b.extractLsb' 0 4 : BitVec 8) = b := by
  rw [BitVec.extractLsb'_append_extractLsb'_eq_extractLsb' (by omega), BitVec.extractLsb'_eq_self]

/-- A frame with no room for its header is refused (R112). -/
theorem decodeFrame_of_outerTooShort {B : List Byte} (h : outerTooShort B) :
    decodeFrame B = .error .frameTooShort := by
  rcases decodeFrame_cases B with ⟨_, hB⟩ | ⟨len, address, portType, rest, rfl, hlen, _⟩
  · exact hB
  · rcases h with h | h
    · simp only [List.length_cons] at h
      omega
    · exact absurd hlen (by simpa using h)

/-- Any other frame gives the header of its second and third byte, and its payload (R112). -/
theorem decodeFrame_of_not_outerTooShort {B : List Byte} (h : ¬ outerTooShort B) :
    decodeFrame B = .ok
      ({ address := B.getD 1 0, port := (B.getD 2 0).extractLsb' 4 4, typ := (B.getD 2 0).extractLsb' 0 4 },
        payloadOf B) := by
  rcases decodeFrame_cases B with ⟨hB, _⟩ | ⟨len, address, portType, rest, rfl, _, hB⟩
  · exact absurd hB h
  · simpa [payloadOf] using hB

/-- Bytes whose length byte is true come back from the header and the payload taken from them (R113(d)). -/
theorem encodeFrame_of_decodeFrame {B : List Byte} {h : Header} {P : List Byte} (hB : B.length ≤ 120)
    (htrue : (B.getD 0 0).toNat + 1 = B.length) (hd : decodeFrame B = .ok (h, P)) : encodeFrame h P = .ok B := by
  rcases decodeFrame_cases B with ⟨_, he⟩ | ⟨len, address, portType, rest, rfl, _, he⟩
  · cases he.symm.trans hd
  · have hlen : len.toNat = rest.length + 2 := by simpa using htrue
    have hrest : rest.take (min (len.toNat - 2) rest.length) = rest := by
      rw [hlen, Nat.add_sub_cancel, Nat.min_self, List.take_length]
    have hbyte : BitVec.ofNat 8 (rest.length + 2) = len := by rw [← hlen, BitVec.ofNat_toNat, BitVec.setWidth_eq]
    obtain ⟨rfl, rfl⟩ := Prod.mk.inj (Except.ok.inj (he.symm.trans hd))
    rw [hrest, encodeFrame_of_le (by simp only [List.length_cons] at hB; omega), hbyte, extractLsb'_hi_append_lo]

/-- The header and the payload come back from what `Encode` makes of them (R113(a)). -/
theorem decodeFrame_of_encodeFrame {h : Header} {P W : List Byte} (he : encodeFrame h P = .ok W) :
    decodeFrame W = .ok (h, P) := by
  obtain ⟨hP, rfl⟩ := encodeFrame_eq_ok he
  have hlen : (BitVec.ofNat 8 (P.length + 2)).toNat = P.length + 2 := by
    rw [BitVec.toNat_ofNat, Nat.mod_eq_of_lt (by omega)]
  simp [decodeFrame, hlen, extractLsb'_hi, extractLsb'_lo]

/-- Settles O25: (a) to (d) are the lemmas above, and a frame that is not too short decodes to its payload. -/
theorem encodeAndDecodeAgree : Obligations.EncodeAndDecodeAgree := by
  unfold Obligations.EncodeAndDecodeAgree
  refine ⟨fun h P hP => ?_, fun h P hP => ?_, fun B => ?_, fun B h P => ?_, fun B => ?_⟩
  case refine_1 =>
    have he := encodeFrame_of_le (h := h) hP
    exact ⟨_, he, by simp only [List.length_cons]; omega, decodeFrame_of_encodeFrame he⟩
  case refine_2 => exact encodeFrame_of_gt (by omega)
  case refine_3 => exact decodeFrame_of_outerTooShort
  case refine_4 => exact encodeFrame_of_decodeFrame
  case refine_5 =>
    by_cases hB : outerTooShort B
    · exact .inr (decodeFrame_of_outerTooShort hB)
    · exact .inl ⟨_, _, decodeFrame_of_not_outerTooShort hB, rfl⟩

/-! ### `ENC` and `DEC` -/

/-- The outer length check in terms of the operands themselves: the length byte is the buffer's first (R48, R112). -/
theorem SideOperands.outerTooShort_bytes_iff (o : SideOperands) (h : o.len.toNat ≤ 120) :
    outerTooShort o.bytes ↔ o.len.toNat < 3 ∨ o.buf[0].toNat < 2 := by
  unfold outerTooShort
  rw [SideOperands.length_bytes_of_le h]
  by_cases h3 : o.len.toNat < 3
  · simp [h3]
  · rw [SideOperands.getD_bytes (by omega) (by decide)]

/-- The response word of `DEC`, field by field from the top bit down (R89): every bit lies in one of the five pieces. -/
theorem headerWord_eq_append (address : Byte) (port typ : BitVec 4) :
    rwField 16 address ||| rwField 4 port ||| rwField 0 typ = 0#8 ++ address ++ 0#8 ++ port ++ typ := by
  refine BitVec.eq_of_getLsbD_eq fun i hi => ?_
  simp only [BitVec.getLsbD_or, getLsbD_rwField, BitVec.getLsbD_append, BitVec.getLsbD_zero]
  split_ifs
  all_goals grind

/-- `DEC` within the buffer answers what `Decode` makes of the bytes (R112). -/
theorem exec_dec_of_ok {s : State} {h : Header} {P : List Byte} (hlen : s.side.len.toNat ≤ 120)
    (hd : decodeFrame s.side.bytes = .ok (h, P)) :
    exec .dec s = .next (s.respond (Result.ofBytes (0#8 ++ h.address ++ 0#8 ++ h.port ++ h.typ) P)) :=
  exec_of_ok rfl rfl (SideOperands.tooLong_eq_false hlen) (by simp only [bodyOf, decBody, hd, headerWord_eq_append])

/-- `DEC` within the buffer raises what `Decode` raises on the bytes (R112). -/
theorem exec_dec_of_error {s : State} {e : Status} (hlen : s.side.len.toNat ≤ 120)
    (hd : decodeFrame s.side.bytes = .error e) : exec .dec s = .next (s.raise e) :=
  exec_of_error rfl rfl (SideOperands.tooLong_eq_false hlen) (by simp only [bodyOf, decBody, hd])

/-- Settles O23: `ENC` answers what `Encode` makes of the header and the bytes below `len`. -/
theorem encBuildsTheWireFrame : Obligations.EncBuildsTheWireFrame := by
  unfold Obligations.EncBuildsTheWireFrame
  refine fun s address port typ => ⟨fun hlen => ?_, fun hlen => ?_⟩
  · have hbytes : s.side.bytes.length = s.side.len.toNat := SideOperands.length_bytes_of_le (by omega)
    rw [← SideOperands.bytes, ← hbytes]
    exact ⟨exec_of_ok rfl rfl rfl (by simp only [bodyOf, encBody, encodeFrame_of_le (hbytes.trans_le hlen)]), rfl⟩
  · have hbytes : 117 < s.side.bytes.length := by rw [SideOperands.length_bytes]; omega
    exact exec_of_error rfl rfl rfl (by simp only [bodyOf, encBody, encodeFrame_of_gt hbytes])

/-- Settles O24: `DEC` answers what `Decode` makes of the bytes below `len`, whose first three are the buffer's. -/
theorem decTakesTheFrameApart : Obligations.DecTakesTheFrameApart := by
  unfold Obligations.DecTakesTheFrameApart
  refine fun s => ⟨fun hlen => ?_, fun hlen hshort => ?_, fun hlen h3 hL => ?_⟩
  case refine_1 => exact exec_badOperand rfl rfl (s.side.tooLong_iff.mpr hlen)
  case refine_2 =>
    exact exec_dec_of_error hlen (decodeFrame_of_outerTooShort ((s.side.outerTooShort_bytes_iff hlen).mpr hshort))
  case refine_3 =>
    have hlong : ¬ outerTooShort s.side.bytes := by rw [s.side.outerTooShort_bytes_iff hlen]; omega
    have hexec := exec_dec_of_ok hlen (decodeFrame_of_not_outerTooShort hlong)
    simp only [payloadOf, SideOperands.length_bytes_of_le hlen] at hexec
    rw [SideOperands.getD_bytes (n := 0), SideOperands.getD_bytes (n := 1), SideOperands.getD_bytes (n := 2)] at hexec
    exact hexec
    all_goals omega

end Sys2Proof.Machine
end

section
/-! PROOFS. The control frame's wire format (spec/41_control_frame.md R120 to R123): O28, O26, O27. -/

namespace Sys2Proof.Machine

open Sys2Proof

theorem slotStart_eq (k : Fin 6) : slotStart k = 4 + 75 * k.val := rfl

/-- A control frame is its type and its six messages (R13). -/
theorem ControlFrame.ext_msg {F G : ControlFrame} (htype : F.frameType = G.frameType)
    (hmsg : ∀ k, F.msg k = G.msg k) : F = G := by
  cases F
  cases G
  exact congrArg₂ ControlFrame.mk htype (Vector.ext fun i hi => hmsg ⟨i, hi⟩)

/-! ### Reading a packed frame -/

/-- One turn of `PackCF` (R120): the message of slot `k` at its position. -/
def putSlot (F : ControlFrame) (B : List Byte) (k : Fin 6) : List Byte := putMessage B (slotStart k) (F.msg k)

theorem packCF_eq_foldl (F : ControlFrame) :
    packCF F = slotIndices.foldl (putSlot F) (putBits (List.replicate 57 0) 0 F.frameType) := rfl

/-- After the slots `l` have been written into a buffer of 57 bytes, each of them reads as its message, and every other
slot as before. -/
theorem getMessage_foldl_putSlot (F : ControlFrame) (l : List (Fin 6)) {B : List Byte} (hB : B.length = 57)
    (k : Fin 6) :
    getMessage (l.foldl (putSlot F) B) (slotStart k) = if k ∈ l then F.msg k else getMessage B (slotStart k) := by
  induction l generalizing B with
  | nil => rfl
  | cons j l ih =>
    have hroom : slotStart k + 75 ≤ 8 * B.length := by rw [slotStart_eq]; omega
    rw [List.foldl_cons, ih (by simpa [putSlot] using hB), putSlot]
    by_cases hkj : k = j
    · subst hkj
      simp [getMessage_putMessage_same _ _ _ hroom]
    · have hapart : slotStart k + 75 ≤ slotStart j ∨ slotStart j + 75 ≤ slotStart k := by
        simp only [slotStart_eq]; omega
      simp [hkj, getMessage_putMessage_disjoint _ _ _ _ hroom hapart]

/-- Writing slots leaves the frame type and the pad bits, the positions outside 4 to 453 (R83), as they were. -/
theorem getBits_foldl_putSlot (F : ControlFrame) (l : List (Fin 6)) {B : List Byte} (hB : B.length = 57) {q u : Nat}
    (hroom : q + u ≤ 456) (hout : q + u ≤ 4 ∨ 454 ≤ q) :
    getBits (l.foldl (putSlot F) B) q u = getBits B q u := by
  induction l generalizing B with
  | nil => rfl
  | cons j l ih =>
    rw [List.foldl_cons, ih (by simpa [putSlot] using hB), putSlot]
    exact getBits_putMessage_disjoint _ _ _ _ _ (by omega) (by rw [slotStart_eq]; omega)

/-- The frame read from the bytes of a packed frame is that frame (R120, R121). -/
theorem readCF_packCF (F : ControlFrame) : readCF (packCF F) = F := by
  refine ControlFrame.ext_msg ?_ fun k => ?_
  · show getBits (packCF F) 0 4 = F.frameType
    rw [packCF_eq_foldl, getBits_foldl_putSlot F _ (by simp) (by omega) (by omega),
      getBits_putBits_same _ _ _ (by simp)]
  · rw [readCF_msg, packCF_eq_foldl, getMessage_foldl_putSlot F _ (by simp), if_pos (mem_slotIndices k)]

/-- The two pad bits of a packed frame are 0 (R85, R120). -/
theorem getBits_packCF_pad (F : ControlFrame) : getBits (packCF F) 454 2 = 0#2 := by
  rw [packCF_eq_foldl, getBits_foldl_putSlot F _ (by simp) (by omega) (by omega),
    getBits_putBits_disjoint _ _ _ _ _ (by simp) (by omega)]
  rfl

/-! ### The three answers of `UnpackCF` (R121) -/

theorem unpackCF_of_short {B : List Byte} (hB : B.length < 57) : unpackCF B = .error .frameTooShort := if_pos hB

theorem unpackCF_of_unique {B : List Byte} (hB : 57 ≤ B.length) (hu : (readCF B).unique = true) :
    unpackCF B = .ok (readCF B) := (if_neg (Nat.not_lt.mpr hB)).trans (if_pos hu)

theorem unpackCF_of_not_unique {B : List Byte} (hB : 57 ≤ B.length) (hu : ¬ (readCF B).unique = true) :
    unpackCF B = .error .duplicateRecipient := (if_neg (Nat.not_lt.mpr hB)).trans (if_neg hu)

/-- A frame without a repeated nonzero id comes back from its bytes (R123(a)). -/
theorem unpackCF_packCF {F : ControlFrame} (h : F.unique = true) : unpackCF (packCF F) = .ok F := by
  have hread := readCF_packCF F
  rw [unpackCF_of_unique (length_packCF F).ge (hread.symm ▸ h), hread]

/-! ### The bits behind the fields -/

theorem streamBit_eq_of_getBits_eq {B C : List Byte} {p w q : Nat} (h : getBits B p w = getBits C p w) (hp : p ≤ q)
    (hq : q < p + w) : streamBit B q = streamBit C q := by
  have hbit := congrArg (·.getMsbD (q - p)) h
  simpa [show q - p < w by omega, show p + (q - p) = q by omega] using hbit

/-- The seven fields of a message fill its 75 positions (R84). -/
theorem streamBit_eq_of_getMessage_eq {B C : List Byte} {b q : Nat} (h : getMessage B b = getMessage C b) (hb : b ≤ q)
    (hq : q < b + 75) : streamBit B q = streamBit C q := by
  simp only [getMessage, ControlMessage.mk.injEq] at h
  obtain ⟨hid, hx, hy, hw, hkick, hchip, hmode⟩ := h
  have hfield : q < b + 8 ∨ (b + 8 ≤ q ∧ q < b + 24) ∨ (b + 24 ≤ q ∧ q < b + 40) ∨ (b + 40 ≤ q ∧ q < b + 56) ∨
      (b + 56 ≤ q ∧ q < b + 72) ∨ (b + 72 ≤ q ∧ q < b + 73) ∨ b + 73 ≤ q := by omega
  rcases hfield with h1 | ⟨h0, h1⟩ | ⟨h0, h1⟩ | ⟨h0, h1⟩ | ⟨h0, h1⟩ | ⟨h0, h1⟩ | h0
  · exact streamBit_eq_of_getBits_eq hid hb h1
  · exact streamBit_eq_of_getBits_eq hx h0 h1
  · exact streamBit_eq_of_getBits_eq hy h0 h1
  · exact streamBit_eq_of_getBits_eq hw h0 h1
  · exact streamBit_eq_of_getBits_eq hkick h0 h1
  · exact streamBit_eq_of_getBits_eq hchip h0 h1
  · exact streamBit_eq_of_getBits_eq hmode h0 hq

/-- The frame type, the six messages and the two pad bits fill the 57 bytes (R83, R85). -/
theorem eq_of_readCF_eq {B C : List Byte} (hB : B.length = 57) (hC : C.length = 57) (h : readCF B = readCF C)
    (hpad : getBits B 454 2 = getBits C 454 2) : B = C := by
  refine eq_of_streamBit_eq (hB.trans hC.symm) fun q hq => ?_
  have hmsg (k : Fin 6) : getMessage B (slotStart k) = getMessage C (slotStart k) := by
    rw [← readCF_msg, ← readCF_msg, h]
  by_cases htype : q < 4
  · exact streamBit_eq_of_getBits_eq (congrArg ControlFrame.frameType h) (Nat.zero_le q) htype
  · by_cases hslots : q < 454
    · let k : Fin 6 := ⟨(q - 4) / 75, by omega⟩
      have hk : 4 + 75 * k.val ≤ q ∧ q < 4 + 75 * k.val + 75 := by simp only [k]; omega
      exact streamBit_eq_of_getMessage_eq (hmsg k) hk.1 hk.2
    · exact streamBit_eq_of_getBits_eq hpad (by omega) (by omega)

/-- The two pad bits as one field (R85). -/
theorem getBits_pad_eq_zero_iff {B : List Byte} :
    getBits B 454 2 = 0#2 ↔ streamBit B 454 = false ∧ streamBit B 455 = false := by
  constructor
  · intro h
    have hbit (i : Nat) := congrArg (·.getMsbD i) h
    exact ⟨by simpa using hbit 0, by simpa using hbit 1⟩
  · rintro ⟨h0, h1⟩
    simp [getBits, ofBits, h0, h1]

/-- Settles O28: packing loses no field, and a buffer of 57 bytes holds no more than the fields and the pad bits. -/
theorem controlFramesSurviveTheWire : Obligations.ControlFramesSurviveTheWire := by
  unfold Obligations.ControlFramesSurviveTheWire
  refine ⟨fun F hF => unpackCF_packCF (F.unique_iff.mpr hF), fun B F hB h454 h455 hu => ?_, length_packCF⟩
  rcases unpackCF_cases B with ⟨_, he⟩ | ⟨_, _, he⟩ | ⟨_, _, he⟩ <;> cases he.symm.trans hu
  have hpad : getBits B 454 2 = 0#2 := getBits_pad_eq_zero_iff.mpr ⟨h454, h455⟩
  exact eq_of_readCF_eq (length_packCF _) hB (readCF_packCF _) ((getBits_packCF_pad _).trans hpad.symm)

/-! ### `ENCCF` and `DECCF` -/

/-- The frame that `UnpackCF` reads is the one whose fields stand in the bytes (R121). -/
theorem standsIn_readCF (B : List Byte) : standsIn (readCF B) B := by
  refine ⟨rfl, fun k => ?_⟩
  rw [readCF_msg]
  exact ⟨rfl, rfl, rfl, rfl, rfl, rfl, rfl⟩

/-- `Unique` fails on the frame read from the bytes exactly where they name a nonzero id twice (R122). -/
theorem unique_readCF_iff (B : List Byte) : (readCF B).unique = true ↔ ¬ repeatsRecipient B := by
  simp only [ControlFrame.unique_iff, repeatsRecipient, readCF_msg, not_exists, not_and, not_not]
  rfl

/-- Settles O26: the bytes are those of `PackCF`, from which every field is read back. -/
theorem enccfPlacesEveryField : Obligations.EnccfPlacesEveryField := by
  unfold Obligations.EnccfPlacesEveryField
  intro s
  have hfields := standsIn_readCF (packCF s.side.cf)
  rw [readCF_packCF] at hfields
  exact ⟨_, exec_enccf s, length_packCF _, hfields, getBits_pad_eq_zero_iff.mp (getBits_packCF_pad _)⟩

/-- `DECCF` within the buffer answers the frame that `UnpackCF` reads (R121). -/
theorem exec_deccf_of_ok {s : State} {F : ControlFrame} (hlen : s.side.len.toNat ≤ 120)
    (hu : unpackCF s.side.bytes = .ok F) :
    exec .deccf s = .next (s.respond { word := 0, bytes := none, cf := some F, time := none }) :=
  exec_of_ok rfl rfl (SideOperands.tooLong_eq_false hlen) (by simp only [bodyOf, deccfBody, hu])

/-- `DECCF` within the buffer raises what `UnpackCF` raises (R121). -/
theorem exec_deccf_of_error {s : State} {e : Status} (hlen : s.side.len.toNat ≤ 120)
    (hu : unpackCF s.side.bytes = .error e) : exec .deccf s = .next (s.raise e) :=
  exec_of_error rfl rfl (SideOperands.tooLong_eq_false hlen) (by simp only [bodyOf, deccfBody, hu])

/-- Settles O27: the operand check, and then the three answers of `UnpackCF`. -/
theorem deccfReadsEveryField : Obligations.DeccfReadsEveryField := by
  unfold Obligations.DeccfReadsEveryField
  intro s B
  have hlength (hlen : s.side.len.toNat ≤ 120) := SideOperands.length_bytes_of_le hlen
  refine ⟨fun hlen => exec_badOperand rfl rfl (s.side.tooLong_iff.mpr hlen), fun hshort => ?_,
    fun hmin hlen hrep => ?_, fun hmin hlen hrep => ?_⟩
  case refine_1 =>
    have hlen : s.side.len.toNat ≤ 120 := by omega
    exact exec_deccf_of_error hlen (unpackCF_of_short (by rwa [hlength hlen]))
  case refine_2 =>
    refine exec_deccf_of_error hlen (unpackCF_of_not_unique (by rwa [hlength hlen]) ?_)
    exact fun hu => (unique_readCF_iff B).mp hu hrep
  case refine_3 =>
    refine ⟨readCF B, exec_deccf_of_ok hlen (unpackCF_of_unique (by rwa [hlength hlen]) ?_), standsIn_readCF B⟩
    exact (unique_readCF_iff B).mpr hrep

end Sys2Proof.Machine
end

section
/-! PROOFS. From `BUILD` on the server to `RXC` on the client (spec/44_client.md R160, spec/45_server.md R165): O59. -/

namespace Sys2Proof.Machine

open Sys2Proof

/-! ### What `BUILD` sends -/

/-- `BUILD` on a started server sends the next frame (R171). -/
theorem exec_build {s : State} (hs : s.serving .server) :
    exec .build s = .next ((s.assigned s.side.now).consumeCommands.respond (Result.ofBytes
      (buildWord (s.sweep s.side.now).reclaimMask (maskOf (s.arbitrated s.side.now).commitLoop.assigned)
        (maskOf (s.arbitrated s.side.now).commitLoop.collided))
      (0x3B :: 1 :: (s.cfg.portControl ++ s.cfg.typeControl) :: packCF (s.assigned s.side.now).nextFrame))) :=
  exec_of_ok (wrongRole_eq_false rfl hs.1) (notStarted_eq_false hs.2) rfl (buildBody_eq s)

/-- The bytes a response owes the transport are those of its results (R49). -/
theorem Response.bytes_of_owedSend {r : Result} {W : List Byte} (h : (Response.ok r).owedSend = some W) :
    r.bytes = some W := (Option.ite_none_right_eq_some.mp h).2

/-- The next frame names no nonzero id twice, since no robot owns two slots (R45(a), R174). -/
theorem State.nextFrame_unique {s : State} (h : s.OwnersDistinct) : s.nextFrame.unique = true := by
  simp only [ControlFrame.unique_iff, State.nextFrame_msg, State.nextMessage_recipientId]
  intro j k hjk howner
  by_contra hk
  exact hjk.ne (h j k (howner ▸ hk) howner)

/-- The message of a slot whose owner has a command pending (R174). -/
theorem State.nextMessage_of_cmdValid {s : State} {k : Fin 6} (howner : (s.slotAt k).owner ≠ 0)
    (hcmd : (s.slotAt k).cmdValid = true) : s.nextMessage k = (s.slotAt k).cmd.toRobot (s.slotAt k).owner := by
  rw [State.nextMessage, if_neg howner, if_pos hcmd]

/-- `BUILD` assembles under the configuration it began with. -/
theorem State.assigned_cfg (s : State) (now : Time) : (s.assigned now).cfg = s.cfg := by
  rw [State.assigned, State.commit_cfg, State.arbitrated, State.freeSlots_cfg, State.sweep_cfg]

/-- `BUILD` arbitrates the claims it began with (R171). -/
theorem State.claimAt_arbitrated (s : State) (now : Time) (k : Fin 6) :
    (s.arbitrated now).claimAt k = s.claimAt k := by
  rw [State.arbitrated, State.claimAt_freeSlots, State.claimAt_sweep]

/-- Assembling keeps the owners (R174). -/
theorem State.owner_consumeCommands (s : State) (k : Fin 6) :
    (s.consumeCommands.slotAt k).owner = (s.slotAt k).owner := by rw [State.slotAt_consumeCommands]

/-- A slot that has an owner before `BUILD` and after it goes into the frame as it was, pending command included (R172,
R173). -/
theorem State.slotAt_assigned_of_owned {s : State} (h : ServerInv s) (now : Time) {k : Fin 6}
    (hs : (s.slotAt k).owner ≠ 0) (ht : ((s.assigned now).slotAt k).owner ≠ 0) :
    (s.assigned now).slotAt k = s.slotAt k := by
  rcases (s.arbitrated now).slotAt_commit_cases k with hkept | ⟨hone, _⟩
  · rw [State.assigned, hkept] at ht ⊢
    exact State.owner_freeSlots_ne_zero ht
  · rw [State.claimAt_arbitrated] at hone
    exact absurd (h.claimsOpen k (by rw [hone]; nofun)) hs

/-- A pending command goes into the frame that `BUILD` sends, if its robot keeps the slot (R174). -/
theorem State.nextMessage_assigned_of_cmdValid {s : State} (h : ServerInv s) (now : Time) {k : Fin 6}
    (hcmd : (s.slotAt k).cmdValid = true) (ht : ((s.assigned now).slotAt k).owner ≠ 0) :
    (s.assigned now).nextMessage k = (s.slotAt k).cmd.toRobot ((s.assigned now).slotAt k).owner := by
  have hslot := State.slotAt_assigned_of_owned h now (h.commandOwned k hcmd) ht
  have hcmd : ((s.assigned now).slotAt k).cmdValid = true := by rw [hslot, hcmd]
  rw [State.nextMessage_of_cmdValid ht hcmd, hslot]

/-! ### What the client makes of it -/

/-- A control frame sent by a core of the same port and type passes the client's front end, if it names no nonzero id
twice (R151, R177(c)). -/
theorem clientFront_of_encCtl {cfg cfg' : Config} {F : ControlFrame} {W : List Byte} (hW : encCtl cfg F = .ok W)
    (hport : cfg'.portControl = cfg.portControl) (htyp : cfg'.typeControl = cfg.typeControl)
    (htype : F.frameType = cfg.typeControl) (hF : F.unique = true) : clientFront cfg' W = .ok F := by
  have hdec : decodeFrame W = .ok (controlHeader cfg, packCF F) := decodeFrame_of_encodeFrame hW
  simp [clientFront, hdec, forControl, controlHeader, hport, htyp, unpackCF_packCF hF, htype]

/-- `RXC` on a started client that finds its own id in slot `k` connects it there (R153, R156). -/
theorem exec_rxc_matched {c : State} {F : ControlFrame} {k : Fin 6} (hc : c.serving .client)
    (hlen : c.side.len.toNat ≤ 120) (hF : clientFront c.cfg c.side.bytes = .ok F) (hk : matchSlot F c.ownId = some k) :
    ∃ r, exec .rxc c = .next ((c.rxcMatched F k c.side.now).respond r) := by
  rcases rxcAccepted_cases c F with ⟨j, hj, ha⟩ | ⟨j, hj, _⟩ | ⟨hj, _⟩ <;> cases hk.symm.trans hj
  have hbody : rxcBody c = .ok (rxcAccepted c F) := by simp only [rxcBody, hF]
  rw [ha] at hbody
  exact ⟨_, exec_of_ok (wrongRole_eq_false rfl hc.1) (notStarted_eq_false hc.2) (SideOperands.tooLong_eq_false hlen)
    hbody⟩

/-- The next frame of a server with distinct owners, framed and handed to the client whose id owns slot `k`, connects
that client there: the frame passes the front end, and the id stands in slot `k` alone (R160(a), R165). -/
theorem exec_rxc_of_nextFrame {a c : State} {k : Fin 6} (ha : a.OwnersDistinct) (hc : c.serving .client)
    (hport : c.cfg.portControl = a.cfg.portControl) (htyp : c.cfg.typeControl = a.cfg.typeControl)
    (hbytes : encCtl a.cfg a.nextFrame = .ok c.side.bytes) (hid : c.ownId ≠ 0)
    (howner : (a.slotAt k).owner = c.ownId) :
    ∃ u, exec .rxc c = .next u ∧ u.conn = true ∧ u.curCmdValid = true ∧ u.curCmd = a.nextMessage k ∧
      u.replyPending = true ∧ u.replySlot.toNat = k.val ∧ u.replyArmedTime = c.side.now := by
  have hlen : c.side.len.toNat ≤ 120 := by
    have hlength : min c.side.len.toNat 120 = 60 := by
      simpa [SideOperands.length_bytes] using congrArg List.length (encodeFrame_eq_ok hbytes).2
    omega
  have hfront := clientFront_of_encCtl hbytes hport htyp rfl (State.nextFrame_unique ha)
  have hmatch : matchSlot a.nextFrame c.ownId = some k := by
    refine matchSlot_of_only hid (by simpa using howner) fun j hj => ?_
    rw [State.nextFrame_msg, State.nextMessage_recipientId] at hj
    exact ha j k (hj ▸ hid) (hj.trans howner.symm)
  obtain ⟨r, hexec⟩ := exec_rxc_matched hc hlen hfront hmatch
  exact ⟨_, hexec, rfl, rfl, a.nextFrame_msg k, rfl, toNat_slotBits k, rfl⟩

/-- Settles O59: what `BUILD` sends is the next frame of the tables it leaves, whose owners are distinct; and a pending
command whose owner keeps its slot goes into that frame. -/
theorem builtFrameReachesItsRobot : Obligations.BuiltFrameReachesItsRobot := by
  unfold Obligations.BuiltFrameReachesItsRobot
  intro s t c r k hs hinv hexec hr hc hport htyp howed hid howner
  obtain rfl := Host.Outcome.next.inj ((exec_build hs).symm.trans hexec)
  obtain rfl := Option.some.inj hr
  have hdistinct : (s.assigned s.side.now).OwnersDistinct := (hinv.assigned hs.2 _).ownersDistinct
  have hbytes : encCtl (s.assigned s.side.now).cfg (s.assigned s.side.now).nextFrame = .ok c.side.bytes := by
    rw [State.assigned_cfg, encCtl_eq]
    exact congrArg Except.ok (Option.some.inj (Response.bytes_of_owedSend howed))
  rw [State.slotAt_respond, State.owner_consumeCommands] at howner
  rw [← s.assigned_cfg s.side.now] at hport htyp
  obtain ⟨u, hrxc, hconn, hvalid, hmsg, hpending, hslot, harmed⟩ :=
    exec_rxc_of_nextFrame hdistinct hc hport htyp hbytes hid howner
  refine ⟨u, hrxc, hconn, hvalid, ?_, hpending, hslot, harmed, fun hcmd => ?_⟩
  · rw [hmsg, State.nextMessage_recipientId, howner]
  · rw [hmsg, State.nextMessage_assigned_of_cmdValid hinv _ hcmd (howner ▸ hid), howner]

end Sys2Proof.Machine
end

section
/-! PROOFS. The reply message's wire format (spec/42_reply_message.md R130 to R132): O30, O29. -/

namespace Sys2Proof.Machine

open Sys2Proof

/-! ### `PackRP` and `UnpackRP` -/

/-- Bytes that cannot hold both fields are refused (R131). -/
theorem unpackRP_of_short {B : List Byte} (hB : B.length < 2) : unpackRP B = .error .frameTooShort := by
  rcases unpackRP_cases B with ⟨_, hu⟩ | ⟨b0, b1, rest, rfl, _⟩
  · exact hu
  · simp only [List.length_cons] at hB
    omega

/-- Any other bytes give the message of their first two (R131). -/
theorem unpackRP_of_two_le {B : List Byte} (hB : 2 ≤ B.length) :
    unpackRP B = .ok { senderId := B.getD 0 0, hardwareRevision := (B.getD 1 0).extractLsb' 4 4 } := by
  rcases unpackRP_cases B with ⟨hshort, _⟩ | ⟨b0, b1, rest, rfl, hu⟩
  · omega
  · exact hu

/-- Packing loses neither field (R132). -/
theorem unpackRP_packRP (m : ReplyMessage) : unpackRP (packRP m) = .ok m := by
  simp only [packRP, unpackRP, extractLsb'_hi]

/-- Two bytes hold no more than the fields and the pad bits (R132). -/
theorem packRP_of_unpackRP {b0 b1 : Byte} {m : ReplyMessage} (hpad : b1.extractLsb' 0 4 = 0#4)
    (hu : unpackRP [b0, b1] = .ok m) : packRP m = [b0, b1] := by
  obtain rfl := Except.ok.inj hu
  have hbyte : (b1.extractLsb' 4 4 ++ 0#4 : BitVec 8) = b1 := by rw [← hpad, extractLsb'_hi_append_lo]
  rw [packRP, hbyte]

/-- The wire frame of a reply has 5 bytes, whatever its header (R111, R132). -/
theorem encodeFrame_packRP (h : Header) (m : ReplyMessage) : encodeFrame h (packRP m) =
    .ok [4, h.address, h.port ++ h.typ, m.senderId, m.hardwareRevision ++ 0#4] :=
  encodeFrame_of_le (by simp [packRP])

/-- Settles O30: neither direction loses a bit, and the payload of two bytes fits the frame. -/
theorem replyMessagesSurviveTheWire : Obligations.ReplyMessagesSurviveTheWire := by
  unfold Obligations.ReplyMessagesSurviveTheWire
  exact ⟨unpackRP_packRP, fun _ _ _ => packRP_of_unpackRP, encodeFrame_packRP⟩

/-! ### `ENCRP` and `DECRP` -/

/-- The response word of `DECRP` (R89) is that of `DEC` with 0 where `port` would stand. -/
theorem replyWord_eq_append (id : RobotId) (hw : BitVec 4) :
    rwField 16 id ||| rwField 0 hw = 0#8 ++ id ++ 0#12 ++ hw := by
  have hport : rwField 4 0#4 = 0#32 := by decide
  have hzeros : (0#8 ++ id ++ 0#8 ++ 0#4 : BitVec 28) = 0#8 ++ id ++ 0#12 := by
    rw [BitVec.append_assoc]
    rfl
  have hword := headerWord_eq_append id 0#4 hw
  rwa [hport, BitVec.or_zero, hzeros] at hword

/-- `DECRP` within the buffer answers the message that `UnpackRP` reads (R131). -/
theorem exec_decrp_of_ok {s : State} {m : ReplyMessage} (hlen : s.side.len.toNat ≤ 120)
    (hu : unpackRP s.side.bytes = .ok m) :
    exec .decrp s = .next (s.respond (Result.ofWord (0#8 ++ m.senderId ++ 0#12 ++ m.hardwareRevision))) :=
  exec_of_ok rfl rfl (SideOperands.tooLong_eq_false hlen) (by simp only [bodyOf, decrpBody, hu, replyWord_eq_append])

/-- `DECRP` within the buffer raises what `UnpackRP` raises (R131). -/
theorem exec_decrp_of_error {s : State} {e : Status} (hlen : s.side.len.toNat ≤ 120)
    (hu : unpackRP s.side.bytes = .error e) : exec .decrp s = .next (s.raise e) :=
  exec_of_error rfl rfl (SideOperands.tooLong_eq_false hlen) (by simp only [bodyOf, decrpBody, hu])

/-- Settles O29: `ENCRP` answers the bytes of `PackRP`; `DECRP` makes the operand check, and then gives the answer of
`UnpackRP`, which reads the buffer's first two bytes. -/
theorem replyMessagesPackIntoTwoBytes : Obligations.ReplyMessagesPackIntoTwoBytes := by
  unfold Obligations.ReplyMessagesPackIntoTwoBytes
  refine ⟨fun s id hw => exec_encrp id hw s, fun s => ⟨fun hlen => ?_, fun hshort => ?_, fun hmin hlen => ?_⟩⟩
  case refine_1 => exact exec_badOperand rfl rfl (s.side.tooLong_iff.mpr hlen)
  case refine_2 =>
    have hlen : s.side.len.toNat ≤ 120 := by omega
    exact exec_decrp_of_error hlen (unpackRP_of_short (by rwa [SideOperands.length_bytes_of_le hlen]))
  case refine_3 =>
    have hexec := exec_decrp_of_ok hlen (unpackRP_of_two_le (by rwa [SideOperands.length_bytes_of_le hlen]))
    rwa [SideOperands.getD_bytes (by omega) (by decide), SideOperands.getD_bytes (by omega) (by decide)] at hexec

end Sys2Proof.Machine
end

section
/-! PROOFS. The refusals of the prologue (spec/43_protocol_entity.md R140, R141, R142): O11, O12. -/

namespace Sys2Proof.Machine

open Sys2Proof

/-! ### What the bodies raise -/

/-- The statuses that the body of an operation can raise (R193): the prologue's two first checks are none of them. -/
def bodyStatuses : Instr → List Status
  | .enc _ _ _ => [.frameTooLarge]
  | .dec | .decrp => [.frameTooShort]
  | .deccf => [.frameTooShort, .duplicateRecipient]
  | .csrr _ | .csrw _ _ | .rdslot _ => [.badOperand]
  | .rxc => [.frameTooShort, .ignored, .duplicateRecipient]
  | .rxr _ => [.frameTooShort, .ignored, .badSender]
  | .setcmd => [.notAssigned]
  | .nop | .enccf | .encrp _ _ | .start | .stop | .ctick | .sweep | .build | .rdcli _ => []

theorem encodeFrame_eq_error {h : Header} {P : List Byte} {e : Status} (he : encodeFrame h P = .error e) :
    e = .frameTooLarge := by
  unfold encodeFrame at he
  split at he <;> cases he
  rfl

theorem unpackCF_eq_error {B : List Byte} {e : Status} (he : unpackCF B = .error e) :
    e = .frameTooShort ∨ e = .duplicateRecipient := by
  rcases unpackCF_cases B with ⟨_, hu⟩ | ⟨_, _, hu⟩ | ⟨_, _, hu⟩ <;> cases hu.symm.trans he
  · exact .inl rfl
  · exact .inr rfl

theorem unpackRP_eq_error {B : List Byte} {e : Status} (he : unpackRP B = .error e) : e = .frameTooShort := by
  rcases unpackRP_cases B with ⟨_, hu⟩ | ⟨_, _, _, _, hu⟩ <;> cases hu.symm.trans he
  rfl

/-- `STOP` cannot raise (R145). -/
theorem stopBody_ne_error (s : State) (e : Status) : stopBody s ≠ .error e := by
  unfold stopBody
  split <;> nofun

/-- A body raises the status of its front end or of its own check, and nothing else (R193). -/
theorem bodyOf_eq_error {i : Instr} {s : State} {e : Status} (hb : bodyOf i s = .error e) : e ∈ bodyStatuses i := by
  cases i
  case nop | enccf | encrp | start | sweep | rdcli => cases hb
  case stop => exact absurd hb (stopBody_ne_error s e)
  case ctick =>
    obtain ⟨r, hr, _⟩ := ctickBody_eq s
    cases hr.symm.trans hb
  case build => cases (buildBody_eq s).symm.trans hb
  all_goals
    simp only [bodyOf, encBody, decBody, deccfBody, decrpBody, csrrBody, csrwBody, rxcBody, rxrBody, setcmdBody,
      rdslotBody] at hb
  case enc =>
    split at hb <;> cases hb
    next hf => simpa [bodyStatuses] using encodeFrame_eq_error hf
  case dec =>
    split at hb <;> cases hb
    next hf => simpa [bodyStatuses] using decodeFrame_eq_error hf
  case deccf =>
    split at hb <;> cases hb
    next hf => simpa [bodyStatuses] using unpackCF_eq_error hf
  case decrp =>
    split at hb <;> cases hb
    next hf => simpa [bodyStatuses] using unpackRP_eq_error hf
  case rxc =>
    split at hb <;> cases hb
    next hf => simpa [bodyStatuses] using clientFront_eq_error hf
  case rxr =>
    split at hb <;> cases hb
    next hf => simpa [bodyStatuses] using serverFront_eq_error hf
  case csrr | csrw | setcmd | rdslot =>
    split at hb <;> cases hb
    exact List.mem_singleton_self _

/-! ### What the prologue raises -/

/-- A status in a response was raised by the prologue, or by the body after it (R140). -/
theorem raised_cases {i : Instr} {s t : State} {e : Status} (h : exec i s = .next t)
    (ht : t.rsp = some (.raised e)) : prologue i s = .error e ∨ e ∈ bodyStatuses i := by
  rcases exec_next h with ⟨e', he, rfl⟩ | ⟨u, r, _, _, rfl⟩ <;> cases ht
  exact he.imp_right fun ⟨_, hb⟩ => bodyOf_eq_error hb

/-- The role check comes first (R140, R141). -/
theorem prologue_eq_wrongRole_iff {i : Instr} {s : State} :
    prologue i s = .error .wrongRole ↔ wrongRole i s = true := by
  rcases prologue_cases i s with ⟨hw, hp⟩ | ⟨hw, _, hp⟩ | ⟨hw, _, _, hp⟩ | ⟨hw, _, _, hp⟩ <;> simp [hw, hp]

/-- The check of `started` comes second (R140, R142). -/
theorem prologue_eq_notStarted_iff {i : Instr} {s : State} :
    prologue i s = .error .notStarted ↔ wrongRole i s = false ∧ notStarted i s = true := by
  rcases prologue_cases i s with ⟨hw, hp⟩ | ⟨hw, hn, hp⟩ | ⟨hw, hn, _, hp⟩ | ⟨hw, hn, _, hp⟩ <;> simp [*]

theorem exec_wrongRole {i : Instr} {s : State} (h : wrongRole i s = true) :
    exec i s = .next (s.raise .wrongRole) := by
  rw [exec_eq_serve]
  exact State.serve_prologue (prologue_eq_wrongRole_iff.mpr h)

theorem exec_notStarted {i : Instr} {s : State} (hw : wrongRole i s = false) (hn : notStarted i s = true) :
    exec i s = .next (s.raise .notStarted) := by
  rw [exec_eq_serve]
  exact State.serve_prologue (prologue_eq_notStarted_iff.mpr ⟨hw, hn⟩)

/-- `WRONG_ROLE` comes from the role check alone (R141). -/
theorem wrongRole_of_raised {i : Instr} {s t : State} (h : exec i s = .next t)
    (ht : t.rsp = some (.raised .wrongRole)) : wrongRole i s = true := by
  rcases raised_cases h ht with hp | hb
  · exact prologue_eq_wrongRole_iff.mp hp
  · cases i <;> simp [bodyStatuses] at hb

/-- `NOT_STARTED` comes from the check of `started` alone (R142). -/
theorem notStarted_of_raised {i : Instr} {s t : State} (h : exec i s = .next t)
    (ht : t.rsp = some (.raised .notStarted)) : notStarted i s = true := by
  rcases raised_cases h ht with hp | hb
  · exact (prologue_eq_notStarted_iff.mp hp).2
  · cases i <;> simp [bodyStatuses] at hb

/-! ### The operations of each role, and those that need `started` -/

theorem servedBy_eq_client_iff {i : Instr} : servedBy i = some .client ↔ i = .rxc ∨ i = .ctick := by
  cases i <;> simp [servedBy]

theorem servedBy_eq_server_iff {i : Instr} : servedBy i = some .server ↔
    ∃ rx k id, i ∈ [Instr.rxr rx, .sweep, .setcmd, .build, .rdcli id, .rdslot k] := by
  cases i <;> simp [servedBy]

/-- The operation is one of the role that the core does not have (R141). -/
theorem wrongRole_iff {i : Instr} {s : State} : wrongRole i s = true ↔
    (s.cfg.role = .server ∧ servedBy i = some .client) ∨ (s.cfg.role = .client ∧ servedBy i = some .server) := by
  unfold wrongRole
  rcases servedBy i with _ | _ | _ <;> cases s.cfg.role <;> decide

theorem needsStarted_iff {i : Instr} : needsStarted i = true ↔
    ∃ rx, i ∈ [Instr.rxc, .ctick, .rxr rx, .sweep, .setcmd, .build] := by
  cases i <;> simp [needsStarted]

theorem notStarted_iff {i : Instr} {s : State} :
    notStarted i s = true ↔ needsStarted i = true ∧ s.started = false := by
  simp [notStarted]

/-- Settles O11: the role check is the prologue's first, and nothing else raises its status. -/
theorem otherRoleRaisesWrongRole : Obligations.OtherRoleRaisesWrongRole := by
  unfold Obligations.OtherRoleRaisesWrongRole
  refine ⟨fun s hr i hi => ?_, fun s rx k id hr i hi => ?_, fun i s t h ht => ?_⟩
  case refine_1 => exact exec_wrongRole (wrongRole_iff.mpr (.inl ⟨hr, servedBy_eq_client_iff.mpr hi⟩))
  case refine_2 => exact exec_wrongRole (wrongRole_iff.mpr (.inr ⟨hr, servedBy_eq_server_iff.mpr ⟨rx, k, id, hi⟩⟩))
  case refine_3 =>
    exact (wrongRole_iff.mp (wrongRole_of_raised h ht)).imp
      (And.imp_right servedBy_eq_client_iff.mp) (And.imp_right servedBy_eq_server_iff.mp)

/-- Settles O12: on a core of the operation's role the check of `started` is the first that can fail, and nothing else
raises its status. -/
theorem stoppedCoreRaisesNotStarted : Obligations.StoppedCoreRaisesNotStarted := by
  unfold Obligations.StoppedCoreRaisesNotStarted
  refine ⟨fun s hr hs i hi => ?_, fun s rx hr hs i hi => ?_, fun i s t h ht => ?_, fun s => rfl⟩
  case refine_1 =>
    simp only [List.mem_cons, List.not_mem_nil, or_false] at hi
    rcases hi with rfl | rfl <;> exact exec_notStarted (wrongRole_eq_false rfl hr) (notStarted_iff.mpr ⟨rfl, hs⟩)
  case refine_2 =>
    simp only [List.mem_cons, List.not_mem_nil, or_false] at hi
    rcases hi with rfl | rfl | rfl | rfl <;>
      exact exec_notStarted (wrongRole_eq_false rfl hr) (notStarted_iff.mpr ⟨rfl, hs⟩)
  case refine_3 =>
    obtain ⟨hneeds, hs⟩ := notStarted_iff.mp (notStarted_of_raised h ht)
    exact ⟨hs, needsStarted_iff.mp hneeds⟩

end Sys2Proof.Machine
end

section
/-! PROOFS. The lifecycle and the register accesses (spec/43_protocol_entity.md R143 to R147): O34, O35, O32, O33,
O36. -/

namespace Sys2Proof.Machine

open Sys2Proof

/-! ### `NOP` and `START` -/

/-- A word whose `op` is 0 is a `NOP`, whatever its other bits are (R87, R143). -/
theorem decode_eq_nop {cw : Word} (h : cw.toNat / 2 ^ 27 = 0) : decode cw = .ok .nop := by
  unfold decode
  rw [toNat_opField, h]
  rfl

/-- Settles O32: `NOP` passes the prologue in every state, and `op` decides the decoding. -/
theorem nopDoesNothing : Obligations.NopDoesNothing := by
  unfold Obligations.NopDoesNothing
  exact ⟨fun s => exec_of_ok rfl rfl rfl rfl, fun _ => decode_eq_nop⟩

/-- `CHANGED`, the response word of `START` and `STOP` (R89). -/
theorem rwFlag_zero (b : Bool) : rwFlag 0 b = if b then 1 else 0 := by
  cases b <;> rfl

/-- What `START` answers (R144). -/
theorem exec_start (s : State) :
    exec .start s = .next ({ s with started := true }.respond (Result.ofWord (rwFlag 0 (!s.started)))) :=
  exec_of_ok rfl rfl rfl rfl

theorem State.start_of_started {s : State} (hs : s.started = true) : { s with started := true } = s := by
  rw [← hs]

/-- Settles O33: `START` passes the prologue in every state, and writes `started` alone. -/
theorem startIsIdempotent : Obligations.StartIsIdempotent := by
  unfold Obligations.StartIsIdempotent
  refine fun s => ⟨?_, fun hs => ?_, rfl⟩
  case refine_1 =>
    rw [exec_start]
    cases s.started <;> rfl
  case refine_2 =>
    rw [exec_start, State.start_of_started hs, hs]
    rfl

/-! ### `STOP` -/

/-- What `STOP` answers on a client (R145). -/
theorem exec_stop_client {s : State} (hr : s.cfg.role = .client) :
    exec .stop s = .next (s.stopClient.respond (Result.ofWord (if s.started then 1 else 0))) :=
  exec_of_ok rfl rfl rfl (by simp only [bodyOf, stopBody, hr, rwFlag_zero])

/-- What `STOP` answers on a server (R145). -/
theorem exec_stop_server {s : State} (hr : s.cfg.role = .server) :
    exec .stop s = .next (s.stopServer.respond (Result.ofWord (if s.started then 1 else 0))) :=
  exec_of_ok rfl rfl rfl (by simp only [bodyOf, stopBody, hr, rwFlag_zero])

/-- The condition on which `STOP` notes `SLOT_FREED` (R145). -/
theorem State.anyOwned_iff (s : State) :
    (slotIndices.any fun k => (s.slotAt k).owner != 0) = true ↔ ∃ k : Fin 6, (s.slotAt k).owner ≠ 0 := by
  simp

theorem State.stopServer_events (s : State) :
    s.stopServer.events = if ∃ k : Fin 6, (s.slotAt k).owner ≠ 0 then s.events ||| 0x40 else s.events := by
  simp only [← s.anyOwned_iff]
  rfl

theorem slotTable_eq {f : Fin 6 → α} {v : Vector α 6} (h : ∀ k : Fin 6, f k = v[k.val]) : slotTable f = v :=
  Vector.ext fun k hk => (slotTable_getElem f ⟨k, hk⟩).trans (h ⟨k, hk⟩)

theorem SlotEntry.freed_eq_self {e : SlotEntry} (howner : e.owner = 0) (hcmd : e.cmdValid = false) :
    { e with owner := 0, cmdValid := false } = e := by
  rw [← howner, ← hcmd]

theorem Claim.eq_cleared {c : Claim} (hstate : c.state = .none) (hid : c.id = 0) : c = Claim.cleared := by
  rw [Claim.cleared, ← hstate, ← hid]

/-- A stopped client has nothing to drop (R23, R145). -/
theorem State.stopClient_of_stopped {s : State} (hs : s.started = false) (hc : ClientInv s) : s.stopClient = s := by
  have hconn : s.conn = false := by simpa [hs] using hc.connStarted
  have hcmd : s.curCmdValid = false := by simpa [hconn] using hc.cmdConn
  have hpending : s.replyPending = false := by simpa [hs] using hc.pendingStarted
  calc s.stopClient
      = { s with started := false, conn := false, curCmdValid := false, replyPending := false } := by
        rw [State.stopClient, State.noteEvent, hconn]; rfl
    _ = s := by cases s; cases hs; cases hconn; cases hcmd; cases hpending; rfl

/-- A stopped server has nothing to free (R45(f), R145). -/
theorem State.stopServer_of_stopped {s : State} (hs : s.started = false) (hv : ServerInv s) : s.stopServer = s := by
  have hslot : s.stopServer.slot = s.slot := by
    rw [State.stopServer_slot]
    refine slotTable_eq fun k => ?_
    obtain ⟨howner, hcmd, _⟩ := hv.stoppedEmpty hs k
    exact SlotEntry.freed_eq_self howner hcmd
  have hclaim : s.stopServer.claim = s.claim := by
    rw [State.stopServer_claim]
    refine slotTable_eq fun k => ?_
    obtain ⟨_, _, hnone⟩ := hv.stoppedEmpty hs k
    exact (Claim.eq_cleared hnone (hv.claimIdIdle k (by rw [hnone]; nofun))).symm
  have hevents : s.stopServer.events = s.events := by
    rw [State.stopServer_events, if_neg]
    exact fun ⟨k, hk⟩ => hk (hv.stoppedEmpty hs k).1
  calc s.stopServer
      = { s with started := false, slot := s.stopServer.slot, claim := s.stopServer.claim,
                 events := s.stopServer.events } := rfl
    _ = s := by rw [hslot, hclaim, hevents, ← hs]

/-- Settles O34: the writes of `STOP` in each role, and what they come to where there is nothing to clear. -/
theorem stopReturnsToStopped : Obligations.StopReturnsToStopped := by
  unfold Obligations.StopReturnsToStopped
  refine ⟨fun s hr => exec_stop_client hr, fun s hr => ?_, fun s hs hc hv => ?_⟩
  case refine_1 =>
    refine ⟨s.stopServer.slot, s.stopServer.claim, ?_, fun k => ⟨s.slotAt_stopServer k, s.claimAt_stopServer k⟩⟩
    rw [exec_stop_server hr, ← s.stopServer_events]
    rfl
  case refine_2 =>
    cases hr : s.cfg.role with
    | client => rw [exec_stop_client hr, State.stopClient_of_stopped hs hc, hs]; rfl
    | server => rw [exec_stop_server hr, State.stopServer_of_stopped hs hv, hs]; rfl

/-! ### `CSRR` -/

/-- A register of `w` bits in a response word, the unnamed bits 0 (R89, R146). -/
theorem rwField_setWidth_half (v : BitVec w) (hw : w ≤ 16) :
    rwField 0 (v.setWidth 16) = (0#(32 - w) ++ v).cast (by omega) := by
  unfold rwField
  rw [BitVec.shiftLeft_zero, BitVec.setWidth_setWidth (u := w) (v := 16) (by omega),
    BitVec.setWidth_eq_append (v := w) (by omega)]

/-- `CSRR` of a register of `w` bits answers its value with zeros above it (R146). -/
theorem exec_csrr_field {s : State} {a : BitVec 8} (v : BitVec w) (hw : w ≤ 16)
    (h : s.csrRead a = some (v.setWidth 16)) :
    exec (.csrr a) s = .next (s.respond (Result.ofWord ((0#(32 - w) ++ v).cast (by omega)))) :=
  (exec_csrr h).trans (by rw [rwField_setWidth_half v hw])

/-- `CSRR` of a register of 16 bits (R146). -/
theorem exec_csrr_half {s : State} {a : BitVec 8} {v : Half} (h : s.csrRead a = some v) :
    exec (.csrr a) s = .next (s.respond (Result.ofWord (0#16 ++ v))) :=
  exec_csrr_field v (by decide) (h.trans (by rw [BitVec.setWidth_eq]))

theorem toNat_zeros_append (m : Nat) (v : BitVec w) : (0#m ++ v).toNat = v.toNat := by
  simp [BitVec.toNat_append]

/-- The fields of `STATUS` have the same value below any number of zeros (R33). -/
theorem toNat_zeros_append_fields (m n : Nat) (slot : BitVec 3) (pending valid conn started : BitVec 1) :
    (0#m ++ slot ++ pending ++ valid ++ conn ++ started).toNat =
      (0#n ++ slot ++ pending ++ valid ++ conn ++ started).toNat := by
  simp [BitVec.toNat_append]

/-- `STATUS` in a response word (R33, R89). -/
theorem zeros_append_status (s : State) : 0#16 ++ s.status =
    (0#25 ++ s.replySlot ++ BitVec.ofBool s.replyPending ++ BitVec.ofBool s.curCmdValid ++ BitVec.ofBool s.conn
      ++ BitVec.ofBool s.started) := by
  apply BitVec.eq_of_toNat_eq
  calc (0#16 ++ s.status).toNat
      = s.status.toNat := toNat_zeros_append 16 s.status
    _ = _ := toNat_zeros_append_fields 9 25 ..

/-- Settles O35: the address of each register leads to its value, and every other one to no register. -/
theorem csrrGivesTheRegister : Obligations.CsrrGivesTheRegister := by
  unfold Obligations.CsrrGivesTheRegister
  intro s
  refine ⟨?role, ?status, ?events, ?irqEn, ?ownId, ?hwRev, ?clientTimeout, ?slotDuration, ?silenceWindow, ?ctrl,
    ?absent⟩
  case role => exact (exec_csrr rfl).trans (by cases s.cfg.role <;> rfl)
  case status => exact (exec_csrr_half rfl).trans (by rw [zeros_append_status])
  case events => exact exec_csrr_field s.events (by decide) rfl
  case irqEn => exact exec_csrr_field s.irqEn (by decide) rfl
  case ownId => exact exec_csrr_field s.ownId (by decide) rfl
  case hwRev => exact exec_csrr_field s.hwRev (by decide) rfl
  case clientTimeout => exact exec_csrr_half rfl
  case slotDuration => exact exec_csrr_half rfl
  case silenceWindow => exact exec_csrr_half rfl
  case ctrl => exact exec_csrr_field (BitVec.ofBool s.claimEn) (by decide) rfl
  case absent =>
    exact fun a ha => exec_badOperand rfl rfl (by simp [operandOutOfRange, s.csrRead_eq_none ha])

/-! ### `CSRW` -/

/-- The first two registers are read-only (R31, R147). -/
theorem State.csrWrite_readOnly {a : BitVec 8} (h : a.toNat < 0x02) (s : State) (v : Half) :
    s.csrWrite a v = none := by
  unfold State.csrWrite
  split
  case h_9 => rfl
  all_goals omega

/-- Settles O36: the address of each writable register leads to its write, and every other one to none. -/
theorem csrwWritesTheRegister : Obligations.CsrwWritesTheRegister := by
  unfold Obligations.CsrwWritesTheRegister
  intro s v
  refine ⟨exec_csrw rfl, exec_csrw rfl, exec_csrw rfl, exec_csrw rfl, exec_csrw rfl, exec_csrw rfl, exec_csrw rfl,
    exec_csrw rfl, fun a ha => ?_⟩
  have hnone : s.csrWrite a v = none := ha.elim (s.csrWrite_readOnly · v) (s.csrWrite_eq_none · v)
  exact exec_badOperand rfl rfl (by simp [operandOutOfRange, hnone])

end Sys2Proof.Machine
end

section
/-! PROOFS. The robot-side client (spec/44_client.md R150 to R160): O37, O38, O39, O40, O42, O41. -/

namespace Sys2Proof.Machine

open Sys2Proof

/-! ### The front end of `RXC` (R151) -/

/-- The header whose nibbles stand in the byte `b` is the control header's where the byte is (R81, R151). -/
theorem forControl_iff {cfg : Config} {address b : Byte} :
    forControl cfg { address := address, port := b.extractLsb' 4 4, typ := b.extractLsb' 0 4 } = true ↔
      b = cfg.portControl ++ cfg.typeControl := by
  simp only [forControl, Bool.and_eq_true, beq_iff_eq]
  constructor
  · rintro ⟨hport, htyp⟩
    rw [← hport, ← htyp, extractLsb'_hi_append_lo]
  · rintro rfl
    exact ⟨extractLsb'_hi .., extractLsb'_lo ..⟩

theorem clientFront_of_outerTooShort (cfg : Config) {B : List Byte} (h : outerTooShort B) :
    clientFront cfg B = .error .frameTooShort := by
  simp only [clientFront, decodeFrame_of_outerTooShort h]

theorem clientFront_of_not_forControl {cfg : Config} {B : List Byte} (h : ¬ outerTooShort B)
    (hpt : B.getD 2 0 ≠ cfg.portControl ++ cfg.typeControl) : clientFront cfg B = .error .ignored := by
  simp only [clientFront, decodeFrame_of_not_outerTooShort h, forControl_iff, if_neg hpt]

/-- A frame for the control port and of the control type is dropped by `UnpackCF` or by its own frame type, or it is
accepted. -/
theorem clientFront_of_forControl {cfg : Config} {B : List Byte} (h : ¬ outerTooShort B)
    (hpt : B.getD 2 0 = cfg.portControl ++ cfg.typeControl) :
    clientFront cfg B = (unpackCF (payloadOf B)).bind fun F =>
      if F.frameType = cfg.typeControl then .ok F else .error .ignored := by
  simp only [clientFront, decodeFrame_of_not_outerTooShort h, forControl_iff, if_pos hpt]
  cases unpackCF (payloadOf B) <;> rfl

/-- The frame that the front end accepts names no nonzero id twice (R151, R160(a)). -/
theorem unique_of_clientFront {cfg : Config} {B : List Byte} {F : ControlFrame} (h : clientFront cfg B = .ok F) :
    F.unique = true := by
  obtain ⟨_, P, _, _, _, hu, _⟩ := clientFront_eq_ok h
  rcases unpackCF_cases P with ⟨_, he⟩ | ⟨_, _, he⟩ | ⟨_, hF, he⟩ <;> cases he.symm.trans hu
  exact hF

/-- `RXC` within the buffer raises what its front end raises (R151, R156). -/
theorem exec_rxc_of_error {s : State} {e : Status} (hs : s.serving .client) (hlen : s.side.len.toNat ≤ 120)
    (hF : clientFront s.cfg s.side.bytes = .error e) : exec .rxc s = .next (s.raise e) :=
  exec_of_error (wrongRole_eq_false rfl hs.1) (notStarted_eq_false hs.2) (SideOperands.tooLong_eq_false hlen)
    (by simp only [bodyOf, rxcBody, hF])

/-- Settles O37: `RXC` raises what its front end raises, and that is decided by the header byte, by `UnpackCF` on the
payload, and by the frame type, in this order. -/
theorem rxcDropsWhatItsFrontEndRefuses : Obligations.RxcDropsWhatItsFrontEndRefuses := by
  unfold Obligations.RxcDropsWhatItsFrontEndRefuses
  intro s hs hlen B forUs
  have hB : s.side.bytes = B := rfl
  have hbyte (h : ¬ outerTooShort B) : B.getD 2 0 = s.side.buf[2] := by
    rw [← hB, s.side.outerTooShort_bytes_iff hlen] at h
    exact SideOperands.getD_bytes (by omega) (by decide)
  have hfront (h : ¬ outerTooShort B) (hus : forUs) :=
    clientFront_of_forControl (cfg := s.cfg) h ((hbyte h).trans hus)
  refine ⟨fun h => ?_, fun h hus => ?_, fun h hus hshort => ?_, fun h hus hmin hrep => ?_,
    fun h hus hmin hrep htype => ?_, fun h hus hmin hrep htype => ?_⟩
  case refine_1 => exact exec_rxc_of_error hs hlen (clientFront_of_outerTooShort s.cfg h)
  case refine_2 => exact exec_rxc_of_error hs hlen (clientFront_of_not_forControl h (hbyte h ▸ hus))
  case refine_3 => exact exec_rxc_of_error hs hlen ((hfront h hus).trans (by rw [unpackCF_of_short hshort]; rfl))
  case refine_4 =>
    have hu := unpackCF_of_not_unique hmin fun hu => (unique_readCF_iff _).mp hu hrep
    exact exec_rxc_of_error hs hlen ((hfront h hus).trans (by rw [hu]; rfl))
  case refine_5 =>
    have hu := unpackCF_of_unique hmin ((unique_readCF_iff _).mpr hrep)
    exact exec_rxc_of_error hs hlen ((hfront h hus).trans (by rw [hu]; exact if_neg htype))
  case refine_6 =>
    have hu := unpackCF_of_unique hmin ((unique_readCF_iff _).mpr hrep)
    exact ⟨_, (hfront h hus).trans (by rw [hu]; exact if_pos htype), standsIn_readCF _⟩

/-! ### `RXC` with an accepted frame (R152 to R156) -/

/-- `RXC` within the buffer answers what it makes of the frame its front end accepts (R156). -/
theorem exec_rxc_of_ok {s : State} {F : ControlFrame} (hs : s.serving .client) (hlen : s.side.len.toNat ≤ 120)
    (hF : clientFront s.cfg s.side.bytes = .ok F) :
    exec .rxc s = .next ((rxcAccepted s F).1.respond (rxcAccepted s F).2) :=
  exec_of_ok (wrongRole_eq_false rfl hs.1) (notStarted_eq_false hs.2) (SideOperands.tooLong_eq_false hlen)
    (by simp only [bodyOf, rxcBody, hF])

/-- The response word of `RXC`, field by field from the top bit down (R89): every bit lies in one of the nine pieces. -/
theorem rxcWord_eq_append (found claim : Bool) (rslot : BitVec 3) (openCount : Nat) (conn up down pending : Bool) :
    rxcWord found claim rslot openCount conn up down pending =
      0#20 ++ BitVec.ofBool pending ++ BitVec.ofBool down ++ BitVec.ofBool up ++ BitVec.ofBool conn
        ++ BitVec.ofNat 3 openCount ++ rslot ++ BitVec.ofBool claim ++ BitVec.ofBool found := by
  generalize hn : BitVec.ofNat 3 openCount = n
  refine BitVec.eq_of_getLsbD_eq fun i hi => ?_
  simp only [rxcWord, hn, BitVec.getLsbD_or, getLsbD_rwField, getLsbD_rwFlag, BitVec.getLsbD_append,
    BitVec.getLsbD_zero, BitVec.getLsbD_ofBool]
  split_ifs
  all_goals grind

/-- The id of an accepted frame's slot `k` leads to slot `k`, since no other carries it (R152, R160(a)). -/
theorem matchSlot_of_unique {F : ControlFrame} {id : RobotId} {k : Fin 6} (hF : F.unique = true) (hid : id ≠ 0)
    (hk : (F.msg k).recipientId = id) : matchSlot F id = some k := by
  have hsame := F.unique_iff.mp hF
  refine matchSlot_of_only hid hk fun j hj => ?_
  rcases lt_trichotomy j k with hlt | heq | hgt
  · exact absurd (hk.symm.trans (hsame j k hlt (hj.trans hk.symm))) hid
  · exact heq
  · exact absurd (hj.symm.trans (hsame k j hgt (hk.trans hj.symm))) hid

theorem rxcAccepted_of_match {s : State} {F : ControlFrame} {k : Fin 6} (h : matchSlot F s.ownId = some k) :
    rxcAccepted s F = (s.rxcMatched F k s.side.now,
      Result.ofWord (rxcWord true false (slotBits k) (openSlots F).length true (!s.conn) false true)) := by
  simp only [rxcAccepted, h]

theorem rxcAccepted_of_claim {s : State} {F : ControlFrame} {j : Fin 6} (h : matchSlot F s.ownId = none)
    (hj : claimSlot s F s.side.rnd = some j) :
    rxcAccepted s F = ((s.rxcUnmatched s.side.now).scheduleReply j s.side.now,
      Result.ofWord (rxcWord false true (slotBits j) (openSlots F).length false false s.conn true)) := by
  simp only [rxcAccepted, h, hj]

theorem rxcAccepted_of_no_claim {s : State} {F : ControlFrame} (h : matchSlot F s.ownId = none)
    (hj : claimSlot s F s.side.rnd = none) :
    rxcAccepted s F = (s.rxcUnmatched s.side.now,
      Result.ofWord (rxcWord false false 0 (openSlots F).length false false s.conn false)) := by
  simp only [rxcAccepted, h, hj]

/-- The edge up is noted where the client was not connected (R153). -/
theorem State.rxcMatched_events_eq (s : State) (F : ControlFrame) (k : Fin 6) (now : Time) :
    (s.rxcMatched F k now).events = if s.conn then s.events else s.events ||| 0x01 := by
  rw [State.rxcMatched_events, State.noteEvent_events]
  cases s.conn <;> rfl

/-- The edge down is noted where the client was connected (R154). -/
theorem State.rxcUnmatched_events_eq (s : State) (now : Time) :
    (s.rxcUnmatched now).events = if s.conn then s.events ||| 0x02 else s.events := rfl

/-- Settles O38: the id of an accepted frame stands in one slot only, so that slot is the one found. -/
theorem rxcOwnIdFound : Obligations.RxcOwnIdFound := by
  unfold Obligations.RxcOwnIdFound
  intro s F k hs hlen hF hid hk
  have hmatch := matchSlot_of_unique (unique_of_clientFront hF) hid hk
  rw [exec_rxc_of_ok hs hlen hF, rxcAccepted_of_match hmatch, rxcWord_eq_append,
    ← s.rxcMatched_events_eq F k s.side.now, List.countP_eq_length_filter]
  rfl

/-- The open slot chosen is the one at place `rnd mod open`, if there is one (R155). -/
theorem chooseSlot_eq_getElem? (l : List (Fin 6)) (rnd : BitVec 8) : chooseSlot l rnd = l[rnd.toNat % l.length]? := by
  unfold chooseSlot
  split
  · next h => exact (List.getElem?_eq_getElem (Nat.mod_lt _ h)).symm
  · next h => rw [List.eq_nil_of_length_eq_zero (Nat.eq_zero_of_not_pos h)]; rfl

theorem claimSlot_of_allowed {s : State} (F : ControlFrame) (rnd : BitVec 8) (hen : s.claimEn = true)
    (hid : s.ownId ≠ 0) : claimSlot s F rnd = chooseSlot (openSlots F) rnd := if_pos ⟨hen, hid⟩

theorem claimSlot_eq_none {s : State} {F : ControlFrame} (rnd : BitVec 8)
    (h : s.claimEn = false ∨ s.ownId = 0 ∨ openSlots F = []) : claimSlot s F rnd = none := by
  unfold claimSlot
  split
  · next hc =>
    obtain ⟨hen, hid⟩ := hc
    rcases h with h | h | h
    · exact absurd (h.symm.trans hen) (by decide)
    · exact absurd h hid
    · rw [h]; rfl
  · rfl

/-- Settles O39: the three branches of an accepted frame that does not name the client. -/
theorem rxcOwnIdNotFound : Obligations.RxcOwnIdNotFound := by
  unfold Obligations.RxcOwnIdNotFound
  intro s F hs hlen hF hid openList events
  have hmatch : matchSlot F s.ownId = none := matchSlot_eq_none.mpr hid
  have hopen : openSlots F = openList := rfl
  refine ⟨fun j hen hown hj => ?_, fun hno => ?_, fun hne => ?_⟩
  case refine_1 =>
    have hclaim : claimSlot s F s.side.rnd = some j := by
      rw [claimSlot_of_allowed F _ hen hown, chooseSlot_eq_getElem?, hopen, hj]
    rw [exec_rxc_of_ok hs hlen hF, rxcAccepted_of_claim hmatch hclaim, rxcWord_eq_append]
    rfl
  case refine_2 =>
    rw [exec_rxc_of_ok hs hlen hF, rxcAccepted_of_no_claim hmatch (claimSlot_eq_none _ hno), rxcWord_eq_append]
    rfl
  case refine_3 =>
    rw [← chooseSlot_eq_getElem?]
    exact Option.isSome_iff_exists.mp (chooseSlot_isSome _ hne)

/-! ### `CTICK` (R157 to R160) -/

/-- The delay of a reply does not wrap: a 3-bit slot number times 16 bits of milliseconds fits in 32 bits (R157). -/
theorem State.toNat_replyDelay (s : State) : s.replyDelay.toNat = s.replySlot.toNat * s.slotDuration.toNat := by
  have hslot : s.replySlot.toNat ≤ 7 := by have := s.replySlot.isLt; omega
  have hduration : s.slotDuration.toNat ≤ 65535 := by have := s.slotDuration.isLt; omega
  have hproduct := Nat.mul_le_mul hslot hduration
  rw [State.replyDelay, BitVec.toNat_mul, BitVec.toNat_setWidth_of_le (by decide),
    BitVec.toNat_setWidth_of_le (by decide), Nat.mod_eq_of_lt (by omega)]

/-- `reply_due_o` in words (R50, R200). -/
theorem State.replyDue_iff {s : State} {now : Time} : s.replyDue now = true ↔
    s.replyPending = true ∧ s.replySlot.toNat * s.slotDuration.toNat ≤ (now - s.replyArmedTime).toNat := by
  rw [State.replyDue, Bool.and_eq_true, decide_eq_true_iff, BitVec.le_def, State.toNat_replyDelay, elapsed]

/-- The silence check in words (R159). -/
theorem State.silent_iff {s : State} {now : Time} : s.silent now = true ↔
    s.silenceWindow ≠ 0 ∧ s.conn = true ∧ s.silenceWindow.toNat < (now - s.lastFrameTime).toNat := by
  rw [State.silent, Bool.and_eq_true, Bool.and_eq_true, bne_iff_ne, decide_eq_true_iff, BitVec.lt_def,
    BitVec.toNat_setWidth_of_le (by decide), elapsed, and_assoc]

/-- The response word of `CTICK`, from the top bit down (R89). -/
theorem ctickWord_eq_append (tx pending silence : Bool) : ctickWord tx pending silence =
    BitVec.ofBool tx ++ 0#29 ++ (BitVec.ofBool silence ++ BitVec.ofBool pending) := by
  cases tx <;> cases pending <;> cases silence <;> rfl

/-- The edge down is noted where the silence check fires (R159). -/
theorem State.ctick_events_eq (s : State) (now : Time) :
    (s.ctick now).events = if s.silent now then s.events ||| 0x02 else s.events := rfl

/-- What `CTICK` on a started client answers, given the result of its body (R157). -/
theorem exec_ctick {s : State} (hs : s.serving .client) :
    exec .ctick s = .next ((s.ctick s.side.now).respond
      (if s.replyDue s.side.now = true ∧ s.ownId ≠ 0 then
        Result.ofBytes (ctickWord true (s.ctick s.side.now).replyPending (s.silent s.side.now))
          [4, 1, s.cfg.portControl ++ s.cfg.typeControl, s.ownId, s.hwRev ++ 0#4]
      else Result.ofWord (ctickWord false (s.ctick s.side.now).replyPending (s.silent s.side.now)))) := by
  obtain ⟨r, hb, hr⟩ := ctickBody_eq s
  rw [← hr]
  exact exec_of_ok (wrongRole_eq_false rfl hs.1) (notStarted_eq_false hs.2) rfl hb

/-- Settles O40: the two conditions of `CTICK` in words, and its answer in each case. -/
theorem ctickFiresTheReplyAndChecksSilence : Obligations.CtickFiresTheReplyAndChecksSilence := by
  unfold Obligations.CtickFiresTheReplyAndChecksSilence
  refine ⟨fun s now => State.replyDue_iff, fun s hs => ?_⟩
  simp only [← State.replyDue_iff, ← State.silent_iff, Bool.decide_eq_true]
  rw [exec_ctick hs]
  refine ⟨fun hdue hid => ?_, fun hno => ?_⟩
  case refine_1 => rw [if_pos ⟨hdue, hid⟩, ctickWord_eq_append]; rfl
  case refine_2 =>
    rw [if_neg fun ⟨hdue, hid⟩ => hno.elim (· hdue) hid, ctickWord_eq_append]
    rfl

/-- Where `CTICK` gives the host bytes to send, a reply was due, the client has an id, the bytes are the reply frame,
and no reply is pending after it (R157, R158). -/
theorem ctick_of_owedSend {s t : State} {r : Response} {W : List Byte} (h : exec .ctick s = .next t)
    (hr : t.rsp = some r) (hW : r.owedSend = some W) :
    s.replyDue s.side.now = true ∧ s.ownId ≠ 0 ∧
      W = [4, 1, s.cfg.portControl ++ s.cfg.typeControl, s.ownId, s.hwRev ++ 0#4] ∧ t.replyPending = false := by
  rcases exec_next h with ⟨e, _, rfl⟩ | ⟨u, q, _, hb, rfl⟩ <;> cases hr
  · cases hW
  · obtain ⟨q', hb', hq⟩ := ctickBody_eq s
    cases hb'.symm.trans hb
    have hbytes := Response.bytes_of_owedSend hW
    rw [hq] at hbytes
    split at hbytes
    · next hsend =>
      obtain ⟨hdue, hid⟩ := hsend
      exact ⟨hdue, hid, (Option.some.inj hbytes).symm, by simp [hdue]⟩
    · cases hbytes

/-- Settles O42: what is sent is the reply frame, whose fourth byte is the id, and a due reply is a pending one. -/
theorem sentReplyNamesItsRobotOnce : Obligations.SentReplyNamesItsRobotOnce := by
  unfold Obligations.SentReplyNamesItsRobotOnce
  intro s t r W h hr hW
  obtain ⟨hdue, hid, rfl, hpending⟩ := ctick_of_owedSend h hr hW
  exact ⟨hid, rfl, (State.replyDue_iff.mp hdue).1, hpending⟩

/-! ### The transition table (R150) -/

/-- Everything `RXC` can answer: it raised, or its front end accepted a frame (R156). -/
theorem exec_rxc_cases {s t : State} (h : exec .rxc s = .next t) :
    (∃ e, t = s.raise e) ∨
    ∃ F, s.serving .client ∧ s.side.len.toNat ≤ 120 ∧ clientFront s.cfg s.side.bytes = .ok F ∧
      t = (rxcAccepted s F).1.respond (rxcAccepted s F).2 := by
  rcases exec_next h with ⟨e, _, rfl⟩ | ⟨u, r, hp, hb, rfl⟩
  · exact .inl ⟨e, rfl⟩
  · obtain ⟨_, _, hlong⟩ := prologue_eq_ok hp
    have hlen : s.side.len.toNat ≤ 120 := by simpa [operandOutOfRange, SideOperands.tooLong] using hlong
    obtain ⟨F, hF, ha⟩ := rxcBody_eq_ok hb
    exact .inr ⟨F, serving_of_prologue hp rfl rfl, hlen, hF, by rw [ha]⟩

/-- What `RXC` makes of the connection: nothing, up with a frame that names the client, or down with one that does not
(R150, R153, R154). -/
theorem exec_rxc_conn_cases {s t : State} (h : exec .rxc s = .next t) :
    let accepted (F : ControlFrame) : Prop := s.side.len.toNat ≤ 120 ∧ clientFront s.cfg s.side.bytes = .ok F
    (t.started = s.started ∧ t.conn = s.conn) ∨
    (s.started = true ∧ t.started = true ∧ s.conn = false ∧ t.conn = true ∧ t.events = s.events ||| 0x01 ∧
      t.curCmd.recipientId = s.ownId ∧
      ∃ F, accepted F ∧ s.ownId ≠ 0 ∧ ∃ k : Fin 6, (F.msg k).recipientId = s.ownId) ∨
    (s.started = true ∧ t.started = true ∧ s.conn = true ∧ t.conn = false ∧ t.events = s.events ||| 0x02 ∧
      ∃ F, accepted F ∧ (s.ownId = 0 ∨ ∀ k : Fin 6, (F.msg k).recipientId ≠ s.ownId)) := by
  intro accepted
  rcases exec_rxc_cases h with ⟨e, rfl⟩ | ⟨F, ⟨_, hstarted⟩, hlen, hF, rfl⟩
  · exact .inl ⟨rfl, rfl⟩
  have hup (k : Fin 6) (hc : s.conn = false) : (s.rxcMatched F k s.side.now).events = s.events ||| 0x01 :=
    (s.rxcMatched_events_eq F k s.side.now).trans (if_neg (by simp [hc]))
  have hdown (hc : s.conn = true) : (s.rxcUnmatched s.side.now).events = s.events ||| 0x02 :=
    (s.rxcUnmatched_events_eq s.side.now).trans (if_pos hc)
  cases hconn : s.conn
  all_goals rcases rxcAccepted_cases s F with ⟨k, hm, ha⟩ | ⟨j, hm, _, ha⟩ | ⟨hm, _, ha⟩ <;> rw [ha]
  case false.inl =>
    obtain ⟨hid, hk⟩ := matchSlot_eq_some hm
    exact .inr (.inl ⟨hstarted, hstarted, rfl, rfl, hup k hconn, hk, F, ⟨hlen, hF⟩, hid, k, hk⟩)
  case false.inr.inl | false.inr.inr | true.inl => exact .inl ⟨rfl, rfl⟩
  case true.inr.inl | true.inr.inr =>
    exact .inr (.inr ⟨hstarted, hstarted, rfl, rfl, hdown hconn, F, ⟨hlen, hF⟩, matchSlot_eq_none.mp hm⟩)

/-- Settles O41: `RXC` by the frame that its front end accepted, every other operation by its effect. -/
theorem clientChangesStateOnlyByTheTable : Obligations.ClientChangesStateOnlyByTheTable := by
  unfold Obligations.ClientChangesStateOnlyByTheTable
  intro i s t hr hinv h accepted
  have hstopped (hstarted : s.started = false) : s.conn = false := by simpa [hstarted] using hinv.connStarted
  by_cases hi : i = .rxc
  · subst hi
    rcases exec_rxc_conn_cases h with hsame | hup | hdown
    · exact .inl hsame
    · exact .inr (.inr (.inr (.inl ⟨rfl, hup⟩)))
    · exact .inr (.inr (.inr (.inr (.inl ⟨rfl, hdown⟩))))
  · obtain ⟨u, r, he, rfl⟩ := exec_effect h
    cases he with
    | unchanged => exact .inl ⟨rfl, rfl⟩
    | start =>
      cases hstarted : s.started with
      | true => exact .inl ⟨rfl, rfl⟩
      | false =>
        have hconn := hstopped hstarted
        exact .inr (.inl ⟨rfl, rfl, hconn, rfl, hconn, rfl⟩)
    | stopClient =>
      cases hstarted : s.started with
      | false => exact .inl ⟨rfl, (hstopped hstarted).symm⟩
      | true => exact .inr (.inr (.inl ⟨rfl, rfl, rfl, rfl, rfl⟩))
    | csrw hw =>
      obtain ⟨_, _, _, _, _, _, _, _, rfl⟩ := State.csrWrite_frame hw
      exact .inl ⟨rfl, rfl⟩
    | rxcMatched | rxcClaimed | rxcUnmatched => exact absurd rfl hi
    | ctick hs =>
      cases hsilent : s.silent s.side.now with
      | false => exact .inl ⟨rfl, by simp [hsilent]⟩
      | true =>
        obtain ⟨hwindow, hconn, hpassed⟩ := State.silent_iff.mp hsilent
        have hdown : (s.ctick s.side.now).conn = false := by simp [hsilent]
        have hevents : (s.ctick s.side.now).events = s.events ||| 0x02 :=
          (s.ctick_events_eq s.side.now).trans (if_pos hsilent)
        exact .inr (.inr (.inr (.inr (.inr ⟨rfl, hs.2, hs.2, hconn, hdown, hevents, hwindow, hpassed⟩))))
    | stopServer hs => cases hr.symm.trans hs
    | rxr hs | sweep hs | setcmd hs | build hs => cases hr.symm.trans hs.1

end Sys2Proof.Machine
end

section
/-! PROOFS. From `CTICK` on the client to `RXR` on the server (spec/44_client.md R158, spec/45_server.md R166): O60. -/

namespace Sys2Proof.Machine

open Sys2Proof

/-- A reply sent by a core of the same port and type passes the server's front end, if it names a sender (R158,
R166). -/
theorem serverFront_of_encReply {cfg cfg' : Config} {m : ReplyMessage} {W : List Byte} (hW : encReply cfg m = .ok W)
    (hport : cfg'.portControl = cfg.portControl) (htyp : cfg'.typeControl = cfg.typeControl) (hid : m.senderId ≠ 0) :
    serverFront cfg' W = .ok m := by
  have hdec : decodeFrame W = .ok (controlHeader cfg, packRP m) := decodeFrame_of_encodeFrame hW
  have hid : ¬ m.senderId = idNone := hid
  simp [serverFront, hdec, forControl, controlHeader, hport, htyp, unpackRP_packRP, hid]

/-- `RXR` within the buffer answers what it makes of the reply its front end accepts (R166). -/
theorem exec_rxr_of_ok {s : State} {m : ReplyMessage} (rx : BitVec 3) (hs : s.serving .server)
    (hlen : s.side.len.toNat ≤ 120) (hm : serverFront s.cfg s.side.bytes = .ok m) :
    exec (.rxr rx) s = .next ((rxrAccepted s rx m).1.respond (rxrAccepted s rx m).2) :=
  exec_of_ok (wrongRole_eq_false rfl hs.1) (notStarted_eq_false hs.2) (SideOperands.tooLong_eq_false hlen)
    (by simp only [bodyOf, rxrBody, hm])

/-- `RXR` writes the record of the sender and no other, whatever it makes of the claim (R166). -/
theorem State.cliAt_rxrAccepted (s : State) (rx : BitVec 3) {m : ReplyMessage} (hm : m.senderId ≠ 0) (id : RobotId) :
    (rxrAccepted s rx m).1.cliAt id = if id = m.senderId then m.record s.side.now else s.cliAt id := by
  rw [rxrAccepted, State.cliAt_registerClaim, State.cliAt_recordReply s hm]

/-- Settles O60: what `CTICK` sends is the reply of a nonzero id, framed, and the server's front end takes it apart. -/
theorem sentReplyReachesTheServer : Obligations.SentReplyReachesTheServer := by
  unfold Obligations.SentReplyReachesTheServer
  intro c t s r rx h hr hs hport htyp howed
  obtain ⟨_, hid, hbytes, _⟩ := ctick_of_owedSend h hr howed
  have hlen : s.side.len.toNat ≤ 120 := by
    have hlength : min s.side.len.toNat 120 = 5 := by
      simpa [SideOperands.length_bytes] using congrArg List.length hbytes
    omega
  have hframe := (encReply_eq c.cfg { senderId := c.ownId, hardwareRevision := c.hwRev }).trans
    (congrArg Except.ok hbytes.symm)
  have hfront := serverFront_of_encReply hframe hport htyp hid
  refine ⟨_, exec_rxr_of_ok rx hs hlen hfront, ?_, fun id hne => ?_⟩
  · rw [State.cliAt_respond, State.cliAt_rxrAccepted s rx hid, if_pos rfl]
    rfl
  · rw [State.cliAt_respond, State.cliAt_rxrAccepted s rx hid, if_neg hne]

end Sys2Proof.Machine
end

section
/-! PROOFS. Receiving a reply on the server (spec/45_server.md R166, R167): O43, O44, O45. -/

namespace Sys2Proof.Machine

open Sys2Proof

/-! ### The front end of `RXR` (R166) -/

theorem serverFront_of_outerTooShort (cfg : Config) {B : List Byte} (h : outerTooShort B) :
    serverFront cfg B = .error .frameTooShort := by
  simp only [serverFront, decodeFrame_of_outerTooShort h]

theorem serverFront_of_not_forControl {cfg : Config} {B : List Byte} (h : ¬ outerTooShort B)
    (hpt : B.getD 2 0 ≠ cfg.portControl ++ cfg.typeControl) : serverFront cfg B = .error .ignored := by
  simp only [serverFront, decodeFrame_of_not_outerTooShort h, forControl_iff, if_neg hpt]

/-- A frame for the control port and of the control type is dropped by `UnpackRP` or for its sender 0, or it is
accepted. -/
theorem serverFront_of_forControl {cfg : Config} {B : List Byte} (h : ¬ outerTooShort B)
    (hpt : B.getD 2 0 = cfg.portControl ++ cfg.typeControl) :
    serverFront cfg B = (unpackRP (payloadOf B)).bind fun r =>
      if r.senderId = 0 then .error .badSender else .ok r := by
  simp only [serverFront, decodeFrame_of_not_outerTooShort h, forControl_iff, if_pos hpt]
  cases unpackRP (payloadOf B) <;> rfl

/-- A byte of the payload stands three places further in the frame (R80, R82). -/
theorem getD_payloadOf {B : List Byte} {n : Nat} (h : n < (payloadOf B).length) :
    (payloadOf B).getD n 0 = B.getD (3 + n) 0 := by
  have hn : n < min ((B.getD 0 0).toNat - 2) (B.length - 3) := by
    simp only [payloadOf, List.length_take, List.length_drop] at h
    omega
  rw [payloadOf, List.getD_eq_getElem?_getD, List.getElem?_take_of_lt hn, List.getElem?_drop,
    List.getD_eq_getElem?_getD]

/-- The payload leaves out the first three bytes (R82). -/
theorem length_payloadOf_le (B : List Byte) : (payloadOf B).length ≤ B.length - 3 := by
  simp only [payloadOf, List.length_take, List.length_drop]
  omega

/-- A frame with room for a reply gives the sender and the revision of its bytes 3 and 4, unless the sender is 0. -/
theorem serverFront_of_room {cfg : Config} {o : SideOperands} (hlen : o.len.toNat ≤ 120) (h : ¬ outerTooShort o.bytes)
    (hpt : o.bytes.getD 2 0 = cfg.portControl ++ cfg.typeControl) (hroom : 2 ≤ (payloadOf o.bytes).length) :
    serverFront cfg o.bytes = if o.buf[3] = 0 then .error .badSender else
      .ok { senderId := o.buf[3], hardwareRevision := o.buf[4].extractLsb' 4 4 } := by
  have hlong : 5 ≤ o.len.toNat := by
    have hle := length_payloadOf_le o.bytes
    rw [SideOperands.length_bytes_of_le hlen] at hle
    omega
  rw [serverFront_of_forControl h hpt, unpackRP_of_two_le hroom, getD_payloadOf (by omega), getD_payloadOf (by omega),
    SideOperands.getD_bytes (by omega) (by decide), SideOperands.getD_bytes (by omega) (by decide)]
  rfl

/-- `RXR` within the buffer raises what its front end raises (R166). -/
theorem exec_rxr_of_error {s : State} {e : Status} (rx : BitVec 3) (hs : s.serving .server)
    (hlen : s.side.len.toNat ≤ 120) (hm : serverFront s.cfg s.side.bytes = .error e) :
    exec (.rxr rx) s = .next (s.raise e) :=
  exec_of_error (wrongRole_eq_false rfl hs.1) (notStarted_eq_false hs.2) (SideOperands.tooLong_eq_false hlen)
    (by simp only [bodyOf, rxrBody, hm])

/-- Settles O43: `RXR` raises what its front end raises, and that is decided by the header byte, by `UnpackRP` on the
payload, and by the sender, in this order. -/
theorem rxrDropsWhatItsFrontEndRefuses : Obligations.RxrDropsWhatItsFrontEndRefuses := by
  unfold Obligations.RxrDropsWhatItsFrontEndRefuses
  intro s rx hs hlen B forUs
  have hB : s.side.bytes = B := rfl
  have hbyte (h : ¬ outerTooShort B) : B.getD 2 0 = s.side.buf[2] := by
    rw [← hB, s.side.outerTooShort_bytes_iff hlen] at h
    exact SideOperands.getD_bytes (by omega) (by decide)
  refine ⟨fun h => ?_, fun h hus => ?_, fun h hus hshort => ?_, fun h hus hroom hzero => ?_,
    fun h hus hroom hid => ?_⟩
  case refine_1 => exact exec_rxr_of_error rx hs hlen (serverFront_of_outerTooShort s.cfg h)
  case refine_2 => exact exec_rxr_of_error rx hs hlen (serverFront_of_not_forControl h (hbyte h ▸ hus))
  case refine_3 =>
    refine exec_rxr_of_error rx hs hlen ((serverFront_of_forControl h ((hbyte h).trans hus)).trans ?_)
    rw [unpackRP_of_short hshort]
    rfl
  case refine_4 =>
    exact exec_rxr_of_error rx hs hlen ((serverFront_of_room hlen h ((hbyte h).trans hus) hroom).trans (if_pos hzero))
  case refine_5 => exact (serverFront_of_room hlen h ((hbyte h).trans hus) hroom).trans (if_neg hid)

/-! ### The claim of an accepted reply (R167) -/

/-- Slot `k` is the one in which a reply of the robot `id` claims: the reply's own slot, open, and the robot holds
none (R167). -/
def State.MayClaim (s : State) (id : RobotId) (rx : BitVec 3) (k : Fin 6) : Prop :=
  k.val = rx.toNat ∧ (s.slotAt k).owner = 0 ∧ ∀ j : Fin 6, (s.slotAt j).owner ≠ id

/-- What the claim `c` becomes by a reply of the robot `id` that claims the slot, and the field `CLAIM` (R167). -/
def Claim.heard (c : Claim) (id : RobotId) : Claim × BitVec 2 :=
  match c.state with
  | .none => ({ state := .one, id := id }, 1)
  | .one => if c.id = id then (c, 1) else ({ state := .collided, id := 0 }, 2)
  | .collided => (c, 2)

theorem slotOf_eq_some_iff {rx : BitVec 3} {k : Fin 6} : slotOf rx = some k ↔ k.val = rx.toNat := by
  refine ⟨fun h => (slotOf_eq_some h).symm, fun h => ?_⟩
  cases hk : slotOf rx with
  | none =>
    have hlarge := slotOf_eq_none hk
    omega
  | some j => rw [Fin.ext (h.trans (slotOf_eq_some hk))]

@[simp] theorem State.setClaim_claimAt (s : State) (k : Fin 6) : s.setClaim k (s.claimAt k) = s := by
  simp [State.setClaim, State.claimAt]

/-- A reply that claims slot `k` writes the claim of slot `k` (R167). -/
theorem State.registerClaim_of_mayClaim {s : State} {id : RobotId} {rx : BitVec 3} {k : Fin 6}
    (h : s.MayClaim id rx k) :
    s.registerClaim id rx = (s.setClaim k ((s.claimAt k).heard id).1, ((s.claimAt k).heard id).2) := by
  obtain ⟨hk, hopen, hnone⟩ := h
  have hslot : slotOf rx = some k := slotOf_eq_some_iff.mpr hk
  have hown : s.ownedSlot id = none := State.ownedSlot_eq_none.mpr hnone
  simp only [State.registerClaim, hown, hslot, hopen, Claim.heard]
  cases (s.claimAt k).state with
  | none => simp
  | one => by_cases hid : (s.claimAt k).id = id <;> simp [hid]
  | collided => simp

/-- A reply that claims no slot registers nothing (R167). -/
theorem State.registerClaim_of_not_mayClaim {s : State} {id : RobotId} {rx : BitVec 3}
    (h : ∀ k, ¬ s.MayClaim id rx k) : s.registerClaim id rx = (s, 0) := by
  have hno (k : Fin 6) (hk : slotOf rx = some k) (hown : s.ownedSlot id = none) (hopen : (s.slotAt k).owner = 0) :
      False := h k ⟨slotOf_eq_some_iff.mp hk, hopen, State.ownedSlot_eq_none.mp hown⟩
  rcases s.registerClaim_cases id rx with e | ⟨k, hk, hown, hopen, _⟩ | ⟨k, hk, hown, hopen, _⟩ |
    ⟨k, hk, hown, hopen, _⟩ | ⟨k, hk, hown, hopen, _⟩
  · exact e
  all_goals exact (hno k hk hown hopen).elim

/-- The slot table and the claims are as they were when `RXR` registers the claim (R166). -/
theorem State.mayClaim_recordReply {s : State} {m : ReplyMessage} {now : Time} {id : RobotId} {rx : BitVec 3}
    {k : Fin 6} : (s.recordReply m now).MayClaim id rx k ↔ s.MayClaim id rx k := by
  simp [State.MayClaim, State.recordReply]

/-! ### What an accepted reply leaves and answers (R166) -/

/-- What `RXR` makes of the claims for the reply `r`: the field `CLAIM` (R89, R167). -/
def State.claimField (s : State) (rx : BitVec 3) (r : ReplyMessage) : BitVec 2 :=
  ((s.recordReply r s.side.now).registerClaim r.senderId rx).2

theorem rxrAccepted_of_mayClaim {s : State} {rx : BitVec 3} {r : ReplyMessage} {k : Fin 6}
    (h : s.MayClaim r.senderId rx k) :
    (rxrAccepted s rx r).1.claim = s.claim.set k.val ((s.claimAt k).heard r.senderId).1 ∧
      s.claimField rx r = ((s.claimAt k).heard r.senderId).2 := by
  have hclaim : (s.recordReply r s.side.now).claimAt k = s.claimAt k := by simp [State.recordReply]
  rw [rxrAccepted, State.claimField, State.registerClaim_of_mayClaim (State.mayClaim_recordReply.mpr h), hclaim]
  simp

theorem rxrAccepted_of_not_mayClaim {s : State} {rx : BitVec 3} {r : ReplyMessage}
    (h : ∀ k, ¬ s.MayClaim r.senderId rx k) :
    (rxrAccepted s rx r).1.claim = s.claim ∧ s.claimField rx r = 0 := by
  rw [rxrAccepted, State.claimField,
    State.registerClaim_of_not_mayClaim fun k hk => h k (State.mayClaim_recordReply.mp hk)]
  simp

/-- The claim of a slot in which the reply may not claim stays as it was (R167). -/
theorem claimAt_rxrAccepted_of_not_mayClaim {s : State} {rx : BitVec 3} {r : ReplyMessage} {k : Fin 6}
    (h : ¬ s.MayClaim r.senderId rx k) : (rxrAccepted s rx r).1.claimAt k = s.claimAt k := by
  by_cases hany : ∃ j, s.MayClaim r.senderId rx j
  · obtain ⟨j, hj⟩ := hany
    have hjk : j.val ≠ k.val := fun e => h (Fin.ext e ▸ hj)
    simp only [State.claimAt, (rxrAccepted_of_mayClaim hj).1, Vector.getElem_set_ne j.isLt k.isLt hjk]
  · exact State.claimAt_congr (rxrAccepted_of_not_mayClaim (not_exists.mp hany)).1 k

/-- An accepted reply writes the status registers, the claim table, and `CLIENT_NEW` for a new robot (R166). -/
theorem rxrAccepted_frame (s : State) (rx : BitVec 3) (r : ReplyMessage) :
    (rxrAccepted s rx r).1 = { s with
      cli := (rxrAccepted s rx r).1.cli
      claim := (rxrAccepted s rx r).1.claim
      events := if (s.cliAt r.senderId).valid then s.events else s.events ||| 0x04 } := by
  obtain ⟨ci, cl, hf⟩ := s.rxr_frame r s.side.now rx
  have hev : (s.recordReply r s.side.now).events =
      if (s.cliAt r.senderId).valid then s.events else s.events ||| 0x04 := by
    rw [State.recordReply, State.noteEvent_events, State.setCli_events]
    cases (s.cliAt r.senderId).valid <;> rfl
  have hacc : (rxrAccepted s rx r).1 = _ := hf.trans (by rw [hev])
  rw [hacc]

/-- The response word of `RXR`, field by field from the top bit down (R89). -/
theorem rxrWord_eq_append (r : ReplyMessage) (new : Bool) (c : BitVec 2) : rxrWord r new c =
    0#8 ++ r.senderId ++ 0#5 ++ c ++ BitVec.ofBool new ++ 0#4 ++ r.hardwareRevision := by
  refine BitVec.eq_of_getLsbD_eq fun i hi => ?_
  simp only [rxrWord, BitVec.getLsbD_or, getLsbD_rwField, getLsbD_rwFlag, BitVec.getLsbD_append,
    BitVec.getLsbD_zero, BitVec.getLsbD_ofBool]
  split_ifs
  all_goals grind

/-- The field `CLAIM` of the response word of `RXR` (R89). -/
theorem extractLsb'_rxrWord (r : ReplyMessage) (new : Bool) (c : BitVec 2) :
    (rxrWord r new c).extractLsb' 9 2 = c := by
  rw [rxrWord_eq_append]
  refine BitVec.eq_of_getLsbD_eq fun i hi => ?_
  simp only [BitVec.getLsbD_extractLsb', BitVec.getLsbD_append]
  grind

/-- Settles O44: the frame of an accepted reply, the sender's record, and the claim where one may be made. -/
theorem rxrRefreshesTheSender : Obligations.RxrRefreshesTheSender := by
  unfold Obligations.RxrRefreshesTheSender
  intro s rx r hs hlen hr claims
  obtain ⟨_, _, _, _, _, _, hid⟩ := serverFront_eq_ok hr
  refine ⟨(rxrAccepted s rx r).1.cli, (rxrAccepted s rx r).1.claim, s.claimField rx r, ?_, fun id => ?_, fun hno => ?_,
    fun k => ⟨fun hno => ?_, fun hk => ?_⟩⟩
  case refine_1 =>
    rw [exec_rxr_of_ok rx hs hlen hr, ← rxrAccepted_frame, ← rxrWord_eq_append]
    rfl
  case refine_2 => exact s.cliAt_rxrAccepted rx hid id
  case refine_3 => exact (rxrAccepted_of_not_mayClaim hno).2
  case refine_4 => exact claimAt_rxrAccepted_of_not_mayClaim hno
  case refine_5 =>
    obtain ⟨hclaim, hfield⟩ := rxrAccepted_of_mayClaim (s := s) hk
    have hat : (rxrAccepted s rx r).1.claimAt k = ((s.claimAt k).heard r.senderId).1 := by
      simp [State.claimAt, hclaim]
    calc ((rxrAccepted s rx r).1.claimAt k, s.claimField rx r)
        = (s.claimAt k).heard r.senderId := by rw [hat, hfield]
      _ = _ := rfl

/-- Settles O45: an owner, an unknown slot and an owned slot leave no slot to claim; in an open one the claim becomes
what the reply makes of it. -/
theorem rxrNotesAtMostOneClaimant : Obligations.RxrNotesAtMostOneClaimant := by
  unfold Obligations.RxrNotesAtMostOneClaimant
  intro s t rx r w hs hlen hr h hw
  obtain rfl := Host.Outcome.next.inj ((exec_rxr_of_ok rx hs hlen hr).symm.trans h)
  have hw : rxrWord r (!(s.cliAt r.senderId).valid) (s.claimField rx r) = w :=
    congrArg Result.word (Response.ok.inj (Option.some.inj hw))
  subst hw
  rw [extractLsb'_rxrWord, State.respond_claim]
  refine ⟨fun hno => ?_, fun k hk => ⟨fun howned => ?_, fun hnone hopen => ?_⟩⟩
  case refine_1 =>
    refine rxrAccepted_of_not_mayClaim fun k ⟨hk, _, hnone⟩ => ?_
    rcases hno with ⟨j, hj⟩ | hunknown
    · exact hnone j hj
    · omega
  case refine_2 =>
    exact rxrAccepted_of_not_mayClaim fun j ⟨hj, hopen, _⟩ => howned (Fin.ext (hk.trans hj.symm) ▸ hopen)
  case refine_3 =>
    have hsame : s.claim.set k.val (s.claimAt k) = s.claim := congrArg State.claim (s.setClaim_claimAt k)
    obtain ⟨hclaim, hfield⟩ := rxrAccepted_of_mayClaim (s := s) ⟨hk, hopen, hnone⟩
    rw [hclaim, hfield]
    refine ⟨fun hst => ?_, fun hst hid => ?_, fun hst hid => ?_, fun hst => ?_⟩
    case refine_1 => simp [Claim.heard, hst]
    case refine_2 => simp [Claim.heard, hst, hid, hsame]
    case refine_3 => simp [Claim.heard, hst, hid]
    case refine_4 => simp [Claim.heard, hst, hsame]

end Sys2Proof.Machine
end

section
/-! PROOFS. Timeouts, commands and the tables on the server (spec/45_server.md R168 to R170, R175, R176): O46, O47,
O48, O55, O56. -/

namespace Sys2Proof.Machine

open Sys2Proof

/-! ### The sweep (R168, R169) -/

/-- The timeout check in words (R38, R169). -/
theorem State.expired_eq (s : State) (c : CliRecord) (now : Time) : s.expired c now =
    (c.valid && decide (s.clientTimeout.toNat < (now - c.lastPacketTime).toNat)) := by
  simp only [State.expired, elapsed, BitVec.lt_def, BitVec.toNat_setWidth_of_le (show 16 ≤ 32 by decide)]

/-- What a sweep makes of a record, in words: a record already flagged stays flagged (R169). -/
theorem State.sweepRecord_eq (s : State) (now : Time) (c : CliRecord) : s.sweepRecord now c = { c with
    reclaimable := c.reclaimable ||
      (c.valid && decide (s.clientTimeout.toNat < (now - c.lastPacketTime).toNat)) } := by
  rw [State.sweepRecord, State.timesOut, State.expired_eq]
  cases c.reclaimable <;> simp

/-- The status registers in the order of their ids (R42). -/
theorem State.cli_toList (s : State) :
    s.cli.toList = (List.range 255).map fun n => s.cliAt (BitVec.ofNat 8 (n + 1)) := by
  refine List.ext_getElem (by simp) fun n hn _ => ?_
  have hn : n < 255 := by simpa using hn
  have hid : (BitVec.ofNat 8 (n + 1)).toNat = n + 1 := by simp; omega
  have hne : BitVec.ofNat 8 (n + 1) ≠ 0 := fun h => by simp [h] at hid
  simp [State.cliAt_of_ne hne, hid]

/-- Where id 0 does not count, the ids below `m + 1` are counted from 1 on. -/
theorem countP_ids_of_zero {q : RobotId → Bool} (h0 : q 0 = false) {m n : Nat} (hn : n = m + 1) :
    ((List.range n).map (BitVec.ofNat 8)).countP q = (List.range m).countP fun i => q (BitVec.ofNat 8 (i + 1)) := by
  subst hn
  have hzero : q (BitVec.ofNat 8 0) = false := h0
  rw [List.range_succ_eq_map, List.map_cons, List.countP_cons, hzero, List.map_map, List.countP_map]
  rfl

/-- Counting records is counting ids, if the record that id 0 reads as does not count (R42). -/
theorem State.countP_cli (s : State) {p : CliRecord → Bool} (h0 : p CliRecord.empty = false) :
    s.cli.toList.countP p = ((List.range 256).map (BitVec.ofNat 8)).countP fun id => p (s.cliAt id) := by
  rw [s.cli_toList, List.countP_map, countP_ids_of_zero (by simpa using h0) (m := 255) rfl]
  rfl

/-- The response word of `SWEEP`, from the top bit down (R89). -/
theorem sweepWord_eq_append (mask : BitVec 6) (n : BitVec 9) :
    rwField 0 mask ||| rwField 8 n = 0#15 ++ n ++ 0#2 ++ mask := by
  refine BitVec.eq_of_getLsbD_eq fun i hi => ?_
  simp only [BitVec.getLsbD_or, getLsbD_rwField, BitVec.getLsbD_append, BitVec.getLsbD_zero]
  split_ifs
  all_goals grind

/-- What `SWEEP` on a started server answers (R168). -/
theorem exec_sweep {s : State} (hs : s.serving .server) : exec .sweep s = .next ((s.sweep s.side.now).respond
    (Result.ofWord (0#15 ++ BitVec.ofNat 9 (s.newTimeouts s.side.now) ++ 0#2 ++ (s.sweep s.side.now).reclaimMask))) :=
  exec_of_ok (wrongRole_eq_false rfl hs.1) (notStarted_eq_false hs.2) rfl
    (by simp only [bodyOf, sweepBody, sweepWord_eq_append])

/-- A sweep writes the status registers, and notes `CLIENT_TIMEOUT` where it newly flags one (R169). -/
theorem State.sweep_eq (s : State) (now : Time) : s.sweep now = { s with
    cli := (s.sweep now).cli
    events := if s.newTimeouts now = 0 then s.events else s.events ||| 0x08 } := by
  have hev : (s.sweep now).events = if s.newTimeouts now = 0 then s.events else s.events ||| 0x08 := by
    rw [State.sweep_events, State.noteEvent_events]
    by_cases h : s.newTimeouts now = 0 <;> simp [h, Event.mask]
  rw [← hev]
  rfl

/-- Settles O46: each record by what a sweep makes of it, and the count and the mask by theirs. -/
theorem sweepFlagsTheSilentRobots : Obligations.SweepFlagsTheSilentRobots := by
  unfold Obligations.SweepFlagsTheSilentRobots
  intro s hs
  have hcli (id : RobotId) := s.cliAt_sweep s.side.now id
  refine ⟨(s.sweep s.side.now).cli, s.newTimeouts s.side.now, (s.sweep s.side.now).reclaimMask, ?_, fun id => ?_, ?_,
    fun k => ?_⟩
  case refine_1 => rw [← State.sweep_eq]; exact exec_sweep hs
  case refine_2 => exact (hcli id).trans (s.sweepRecord_eq s.side.now _)
  case refine_3 =>
    have hflag (id : RobotId) : s.timesOut s.side.now (s.cliAt id) =
        (!(s.cliAt id).reclaimable && ((s.sweep s.side.now).cliAt id).reclaimable) := by
      rw [Bool.eq_iff_iff, State.timesOut_iff, hcli]
      simp
    have hempty : s.timesOut s.side.now CliRecord.empty = false := rfl
    rw [State.newTimeouts, s.countP_cli hempty]
    simp only [hflag]
    rfl
  case refine_4 => exact getLsbD_slotMask _ k

/-- Settles O47: the time since the last reply is the distance of `now` from it, wrapped or not. -/
theorem timeoutIsStrictlyMoreThanTheLimit : Obligations.TimeoutIsStrictlyMoreThanTheLimit := by
  unfold Obligations.TimeoutIsStrictlyMoreThanTheLimit
  intro s id hs hvalid hlive limit
  have hflag : ((s.sweep s.side.now).cliAt id).reclaimable =
      decide (s.clientTimeout.toNat < (s.side.now - (s.cliAt id).lastPacketTime).toNat) := by
    simp [State.cliAt_sweep, State.sweepRecord_eq, hvalid, hlive]
  have hexec := exec_sweep hs
  refine ⟨fun hnow => ⟨_, hexec, hflag.trans (decide_eq_true ?_)⟩,
    fun hnow => ⟨_, hexec, hflag.trans (decide_eq_false ?_)⟩,
    fun hpos hnow => ⟨_, hexec, hflag.trans (decide_eq_false ?_)⟩⟩
  all_goals
    simp only [hnow, limit]
    bv_omega

/-! ### `SETCMD` (R170) -/

/-- `SETCMD` of a robot with an id ends as its body does (R170). -/
theorem prologue_setcmd {s : State} (hs : s.serving .server) (hid : (s.side.cf.msg 0).recipientId ≠ 0) :
    prologue .setcmd s = .ok () :=
  prologue_ok (wrongRole_eq_false rfl hs.1) (notStarted_eq_false hs.2) (by simpa [operandOutOfRange] using hid)

/-- A slot index in the low bits of a response word (R89). -/
theorem rwField_slotBits (k : Fin 6) : rwField 0 (slotBits k) = 0#29 ++ BitVec.ofNat 3 k.val := by
  unfold rwField
  rw [BitVec.shiftLeft_zero, BitVec.setWidth_eq_append (v := 3) (by omega)]
  rfl

/-- Settles O48: the operand check, the search for the robot's slot, and the write of that slot. -/
theorem setcmdPostsToTheOwnersSlot : Obligations.SetcmdPostsToTheOwnersSlot := by
  unfold Obligations.SetcmdPostsToTheOwnersSlot
  intro s hs m posted
  refine ⟨fun hid => ?_, fun hid hnone => ?_, fun k hid hk => ?_⟩
  case refine_1 => exact hs.exec_badOperand rfl (by simpa [operandOutOfRange] using hid)
  case refine_2 =>
    have hown : s.ownedSlot (s.side.cf.msg 0).recipientId = none := State.ownedSlot_eq_none.mpr hnone
    rw [exec_eq_serve]
    exact State.serve_error (prologue_setcmd hs hid) (by simp only [bodyOf, setcmdBody, hown])
  case refine_3 =>
    have howner : (s.slotAt k).owner = m.recipientId := (hk k).mpr rfl
    have hown : s.ownedSlot (s.side.cf.msg 0).recipientId = some k :=
      State.ownedSlot_of_owner howner fun j => (hk j).mp
    have hpost : s.postCommand k (s.side.cf.msg 0) = { s with slot := s.slot.set k.val posted } := by
      simp only [State.postCommand, State.setSlot, howner]
      rfl
    rw [exec_eq_serve, ← hpost, ← rwField_slotBits]
    exact State.serve_ok (prologue_setcmd hs hid) (by simp only [bodyOf, setcmdBody, hown])

/-! ### `RDCLI` and `RDSLOT` (R175, R176) -/

/-- The response word of `RDCLI`, field by field from the top bit down (R89). -/
theorem rdcliWord_eq_append (valid reclaimable expired : Bool) (hw : BitVec 4) (slot : BitVec 3) :
    rwFlag 0 valid ||| rwFlag 1 reclaimable ||| rwFlag 2 expired ||| rwField 3 hw ||| rwField 8 slot =
      0#21 ++ slot ++ 0#1 ++ hw ++ BitVec.ofBool expired ++ BitVec.ofBool reclaimable ++ BitVec.ofBool valid := by
  refine BitVec.eq_of_getLsbD_eq fun i hi => ?_
  simp only [BitVec.getLsbD_or, getLsbD_rwField, getLsbD_rwFlag, BitVec.getLsbD_append, BitVec.getLsbD_zero,
    BitVec.getLsbD_ofBool]
  split_ifs
  all_goals grind

/-- Settles O55: the operand check, and the record with the number of the robot's slot. -/
theorem rdcliReadsTheRecord : Obligations.RdcliReadsTheRecord := by
  unfold Obligations.RdcliReadsTheRecord
  intro s id sl hr
  refine ⟨fun hid => ?_, fun hid hsl => ?_⟩
  case refine_1 => exact exec_badOperand (wrongRole_eq_false rfl hr) rfl (by simpa [operandOutOfRange] using hid)
  case refine_2 =>
    have hslot : slotNumber (s.ownedSlot id) = sl := by
      rcases hsl with ⟨k, hk, rfl⟩ | ⟨hnone, rfl⟩
      · rw [State.ownedSlot_of_owner ((hk k).mpr rfl) fun j => (hk j).mp]
        rfl
      · rw [State.ownedSlot_eq_none.mpr hnone]
        rfl
    refine exec_of_ok (wrongRole_eq_false rfl hr) rfl (by simpa [operandOutOfRange] using hid) ?_
    simp only [bodyOf, rdcliBody, hslot, State.expired_eq, rdcliWord_eq_append]

/-- The response word of `RDSLOT`, field by field from the top bit down (R89). -/
theorem rdslotWord_eq_append (owner id : RobotId) (pending : Bool) (state : BitVec 2) :
    rwField 0 owner ||| rwFlag 8 pending ||| rwField 9 state ||| rwField 16 id =
      0#8 ++ id ++ 0#5 ++ state ++ BitVec.ofBool pending ++ owner := by
  refine BitVec.eq_of_getLsbD_eq fun i hi => ?_
  simp only [BitVec.getLsbD_or, getLsbD_rwField, getLsbD_rwFlag, BitVec.getLsbD_append, BitVec.getLsbD_zero,
    BitVec.getLsbD_ofBool]
  split_ifs
  all_goals grind

/-- Settles O56: the operand check, and the entries of both tables. -/
theorem rdslotReadsTheSlot : Obligations.RdslotReadsTheSlot := by
  unfold Obligations.RdslotReadsTheSlot
  intro s sl hr
  refine ⟨fun hlarge => ?_, fun k hk => ?_⟩
  case refine_1 =>
    exact exec_badOperand (wrongRole_eq_false rfl hr) rfl (by simp [operandOutOfRange, slotOf_eq_none_of_le hlarge])
  case refine_2 =>
    have hslot : slotOf sl = some k := slotOf_eq_some_iff.mpr hk.symm
    refine exec_of_ok (wrongRole_eq_false rfl hr) rfl (by simp [operandOutOfRange, hslot]) ?_
    simp only [bodyOf, rdslotBody, hslot, rdslotWord_eq_append]
    cases (s.claimAt k).state <;> rfl

end Sys2Proof.Machine
end

section
/-! PROOFS. `BUILD` (spec/45_server.md R165, R171 to R174, R177): O49, O50, O51, O52, O53. -/

namespace Sys2Proof.Machine

open Sys2Proof

/-! ### The response word (R89) -/

theorem getLsbD_txBit (i : Nat) : txBit.getLsbD i = decide (i = 31) := by
  have htx : txBit = BitVec.twoPow 32 31 := rfl
  rw [htx, BitVec.getLsbD_twoPow]
  grind

theorem getLsbD_buildWord_tx (freed assigned collided : BitVec 6) :
    (buildWord freed assigned collided).getLsbD 31 = true := by
  simp [buildWord, getLsbD_txBit]

theorem getLsbD_buildWord_freed (freed assigned collided : BitVec 6) (k : Fin 6) :
    (buildWord freed assigned collided).getLsbD k.val = freed.getLsbD k.val := by
  simp only [buildWord, BitVec.getLsbD_or, getLsbD_txBit, getLsbD_rwField]
  grind

theorem getLsbD_buildWord_assigned (freed assigned collided : BitVec 6) (k : Fin 6) :
    (buildWord freed assigned collided).getLsbD (8 + k.val) = assigned.getLsbD k.val := by
  simp only [buildWord, BitVec.getLsbD_or, getLsbD_txBit, getLsbD_rwField]
  grind

theorem getLsbD_buildWord_collided (freed assigned collided : BitVec 6) (k : Fin 6) :
    (buildWord freed assigned collided).getLsbD (16 + k.val) = collided.getLsbD k.val := by
  simp only [buildWord, BitVec.getLsbD_or, getLsbD_txBit, getLsbD_rwField]
  grind

theorem getLsbD_maskOf (l : List (Fin 6)) (k : Fin 6) : (maskOf l).getLsbD k.val = true ↔ k ∈ l := by
  rw [maskOf, getLsbD_slotMask, List.contains_iff_mem]

/-! ### Live robots (R169, R172) -/

/-- A robot is live exactly where a sweep leaves its record valid and not reclaimable (R169). -/
theorem State.liveAt_iff {s : State} {now : Time} {id : RobotId} : s.liveAt now id ↔
    ((s.sweep now).cliAt id).valid = true ∧ ((s.sweep now).cliAt id).reclaimable = false := by
  rw [State.cliAt_sweep, State.sweepRecord_eq, State.liveAt, State.tooOld]
  refine and_congr_right fun hv => ?_
  simp [hv]

/-- `BUILD` frees a slot exactly where its owner, a known robot, is not live (R45(d), R172). -/
theorem State.ownerReclaimable_sweep_iff {s : State} (h : ServerInv s) {now : Time} {k : Fin 6} :
    (s.sweep now).ownerReclaimable k = true ↔ (s.slotAt k).owner ≠ 0 ∧ ¬ s.liveAt now (s.slotAt k).owner := by
  rw [State.ownerReclaimable, Bool.and_eq_true, bne_iff_ne, State.slotAt_sweep]
  refine and_congr_right fun hk => ?_
  have hvalid : ((s.sweep now).cliAt (s.slotAt k).owner).valid = true := by
    rw [State.cliAt_sweep]
    exact h.ownerKnown k hk
  simp [State.liveAt_iff, hvalid]

/-- No command is pending after `BUILD`: those of owners are consumed, and open slots have none (R45(e), R174). -/
theorem State.cmdValid_build {s : State} (h : ServerInv s) (hs : s.started = true) (now : Time) (k : Fin 6) :
    ((s.assigned now).consumeCommands.slotAt k).cmdValid = false := by
  rw [State.slotAt_consumeCommands]
  by_contra hc
  obtain ⟨hcmd, hopen⟩ : ((s.assigned now).slotAt k).cmdValid = true ∧ ((s.assigned now).slotAt k).owner = 0 := by
    simpa using hc
  exact (h.assigned hs now).commandOwned k hcmd hopen

/-- A bit of `EVENTS` after `BUILD` is its old value or the event that `BUILD` noted (R34). -/
theorem State.event_build_iff {s : State} {now : Time} {e : Event} {p : Prop} (hp : s.notedInBuild now e = true ↔ p) :
    (s.assigned now).consumeCommands.events.getLsbD e.index = true ↔ s.events.getLsbD e.index = true ∨ p := by
  rw [State.getLsbD_events_build, Bool.or_eq_true, hp]

/-- Settles O49: the mask and the event of freeing, and what becomes of an owned slot. -/
theorem buildFreesTheSlotsOfSilentRobots : Obligations.BuildFreesTheSlotsOfSilentRobots := by
  unfold Obligations.BuildFreesTheSlotsOfSilentRobots
  intro s hs hinv
  have hfreed (k : Fin 6) := State.ownerReclaimable_sweep_iff hinv (now := s.side.now) (k := k)
  refine ⟨_, _, _, exec_build hs, getLsbD_buildWord_tx .., fun id => ?_, ?_, fun k => ?_⟩
  case refine_1 => rw [State.cliAt_build, State.sweepRecord_eq]
  case refine_2 =>
    have hevent : s.notedInBuild s.side.now .slotFreed = true ↔
        ∃ k, (s.slotAt k).owner ≠ 0 ∧ ¬ s.liveAt s.side.now (s.slotAt k).owner := by
      simp only [State.notedInBuild, slotIndices_any, hfreed]
    simpa only [Event.index] using State.event_build_iff hevent
  case refine_3 =>
    have howner (hk : (s.slotAt k).owner ≠ 0) :=
      (State.owner_build_of_owned hinv s.side.now hk).trans (s.owner_arbitrated s.side.now k)
    rw [getLsbD_buildWord_freed, State.reclaimMask, getLsbD_slotMask]
    refine ⟨fun hopen => ?_, fun hk hlive => ?_, fun hk hdead => ?_⟩
    · exact Bool.eq_false_iff.mpr fun hr => ((hfreed k).mp hr).1 hopen
    · have hno : ¬ (s.sweep s.side.now).ownerReclaimable k = true := fun hr => ((hfreed k).mp hr).2 hlive
      exact ⟨(howner hk).trans (if_neg hno), Bool.eq_false_iff.mpr hno⟩
    · have hr := (hfreed k).mpr ⟨hk, hdead⟩
      exact ⟨(howner hk).trans (if_pos hr), State.cmdValid_build hinv hs.2 _ k, hr⟩

/-! ### The loop of `Commit` (R173) -/

/-- What the start of the loop has, and each turn carries from the slots before it to the next, the whole loop has. -/
theorem State.commitLoop_ascending {P : Nat → CommitAcc → Prop} (s : State)
    (h0 : P 0 { state := s, assigned := [], collided := [] })
    (hstep : ∀ (acc : CommitAcc) (k : Fin 6), P k.val acc → P (k.val + 1) (commitSlot acc k)) : P 6 s.commitLoop :=
  hstep _ 5 (hstep _ 4 (hstep _ 3 (hstep _ 2 (hstep _ 1 (hstep _ 0 h0)))))

/-- The claim on slot `k` is a single claimant's that could be granted when the loop begins, and that robot has no claim
on a lower slot (R173). -/
def State.WinsSlot (s : State) (k : Fin 6) : Prop :=
  s.grants k = true ∧ ∀ j : Fin 6, j < k → ¬ ((s.claimAt j).state = .one ∧ (s.claimAt j).id = (s.claimAt k).id)

/-- A robot whose claim on slot `k` could be granted and that has a claim on a lower slot wins one of the lower slots:
the lowest that it claims, which is open (R45(b)). -/
theorem State.winsSlot_below {s : State} (h : ServerInv s) {j k : Fin 6} (hk : s.grants k = true) (hjk : j < k)
    (hj : (s.claimAt j).state = .one ∧ (s.claimAt j).id = (s.claimAt k).id) :
    ∃ i : Fin 6, i < k ∧ s.WinsSlot i ∧ (s.claimAt i).id = (s.claimAt k).id := by
  obtain ⟨i, ⟨hone, hid⟩, hmin⟩ := (wellFounded_lt (α := Fin 6)).has_min
    {i | (s.claimAt i).state = .one ∧ (s.claimAt i).id = (s.claimAt k).id} ⟨j, hj⟩
  have hik : i < k := lt_of_le_of_lt (not_lt.mp (hmin j hj)) hjk
  obtain ⟨_, _, hvalid, hlive, hnone⟩ := (State.grants_iff s k).mp hk
  have hopen : (s.slotAt i).owner = 0 := h.claimsOpen i (by rw [hone]; nofun)
  have hi : s.grants i = true := by
    rw [State.grants_iff, hid]
    exact ⟨hone, hopen, hvalid, hlive, hnone⟩
  exact ⟨i, hik, ⟨hi, fun l hl hlc => hmin l ⟨hlc.1, hlc.2.trans hid⟩ hl⟩, hid⟩

/-- The loop after its turns on the slots below `n` (R173): the later claims are untouched, the slots won so far have
their winners, and the two lists say which were won and which had collided. -/
structure CommittedBelow (s : State) (n : Nat) (acc : CommitAcc) : Prop where
  cli : ∀ id, acc.state.cliAt id = s.cliAt id
  claims : ∀ j : Fin 6, n ≤ j.val → acc.state.claimAt j = s.claimAt j
  won : ∀ j : Fin 6, j.val < n → s.WinsSlot j →
    acc.state.slotAt j = { s.slotAt j with owner := (s.claimAt j).id, cmdValid := false }
  kept : ∀ j : Fin 6, ¬ (j.val < n ∧ s.WinsSlot j) → acc.state.slotAt j = s.slotAt j
  assigned : ∀ j : Fin 6, j ∈ acc.assigned ↔ j.val < n ∧ s.WinsSlot j
  collided : ∀ j : Fin 6, j ∈ acc.collided ↔ j.val < n ∧ (s.claimAt j).state = .collided

theorem CommittedBelow.start (s : State) :
    CommittedBelow s 0 { state := s, assigned := [], collided := [] } where
  cli _ := rfl
  claims _ _ := rfl
  won _ hj := absurd hj (Nat.not_lt_zero _)
  kept _ _ := rfl
  assigned _ := by simp
  collided _ := by simp

/-- A slot that had an owner when the loop began is as it was. -/
theorem CommittedBelow.kept_of_owned {s : State} {n : Nat} {acc : CommitAcc} (h : CommittedBelow s n acc) {j : Fin 6}
    (hj : (s.slotAt j).owner ≠ 0) : acc.state.slotAt j = s.slotAt j := by
  refine h.kept j fun ⟨_, hg, _⟩ => ?_
  obtain ⟨_, hopen, _⟩ := (State.grants_iff s j).mp hg
  exact hj hopen

/-- The turn on slot `k` grants it exactly where its claimant wins it: a claimant of a lower slot owns that one by now
(R173). -/
theorem CommittedBelow.grants_iff {s : State} {k : Fin 6} {acc : CommitAcc} (h : CommittedBelow s k.val acc)
    (hs : ServerInv s) : acc.state.grants k = true ↔ s.WinsSlot k := by
  have hslot : acc.state.slotAt k = s.slotAt k := h.kept k fun hk => lt_irrefl _ hk.1
  rw [State.grants_iff, h.claims k le_rfl, hslot, h.cli, State.ownedSlot_eq_none]
  constructor
  · rintro ⟨hone, hopen, hvalid, hlive, hfree⟩
    have hnone (j : Fin 6) : (s.slotAt j).owner ≠ (s.claimAt k).id := fun hown =>
      hfree j (by rw [h.kept_of_owned (hown ▸ (hs.claimantKnown k hone).1), hown])
    have hg := (State.grants_iff s k).mpr ⟨hone, hopen, hvalid, hlive, State.ownedSlot_eq_none.mpr hnone⟩
    refine ⟨hg, fun j hjk hj => ?_⟩
    obtain ⟨i, hik, hwins, hid⟩ := State.winsSlot_below hs hg hjk hj
    exact hfree i (by rw [h.won i hik hwins, hid])
  · rintro ⟨hg, hlower⟩
    obtain ⟨hone, hopen, hvalid, hlive, hnone⟩ := (State.grants_iff s k).mp hg
    refine ⟨hone, hopen, hvalid, hlive, fun j hown => ?_⟩
    by_cases hwon : j.val < k.val ∧ s.WinsSlot j
    · obtain ⟨hjk, hwins⟩ := hwon
      obtain ⟨hjone, _⟩ := (State.grants_iff s j).mp hwins.1
      rw [h.won j hjk hwins] at hown
      exact hlower j hjk ⟨hjone, hown⟩
    · rw [h.kept j hwon] at hown
      exact State.ownedSlot_eq_none.mp hnone j hown

/-- The slots below the next turn are those below this one, and this one. -/
theorem val_lt_succ_and_iff {j k : Fin 6} {p : Fin 6 → Prop} :
    j.val < k.val + 1 ∧ p j ↔ (j = k ∧ p k) ∨ (j.val < k.val ∧ p j) := by
  rcases lt_trichotomy j k with hlt | rfl | hgt
  · have hlt : j.val < k.val := hlt
    simp [hlt, Nat.lt_succ_of_lt hlt, Fin.ext_iff, hlt.ne]
  · simp
  · have hgt : k.val < j.val := hgt
    simp [Fin.ext_iff, hgt.ne', Nat.not_lt.mpr hgt, hgt.not_gt]

theorem CommittedBelow.turn {s : State} (hs : ServerInv s) {k : Fin 6} {acc : CommitAcc}
    (h : CommittedBelow s k.val acc) : CommittedBelow s (k.val + 1) (commitSlot acc k) := by
  have hgrants := h.grants_iff hs
  have hslot : acc.state.slotAt k = s.slotAt k := h.kept k fun hk => lt_irrefl _ hk.1
  have hclaim : acc.state.claimAt k = s.claimAt k := h.claims k le_rfl
  refine ⟨fun id => ?_, fun j hj => ?_, fun j hj hwins => ?_, fun j hno => ?_, fun j => ?_, fun j => ?_⟩
  case refine_1 => rw [cliAt_commitSlot, h.cli]
  case refine_2 => rw [claimAt_commitSlot, if_neg (by rintro rfl; omega), h.claims j (by omega)]
  case refine_3 =>
    rw [slotAt_commitSlot, hslot, hclaim]
    rcases val_lt_succ_and_iff.mp ⟨hj, hwins⟩ with ⟨rfl, hk⟩ | ⟨hlt, _⟩
    · rw [if_pos ⟨rfl, hgrants.mpr hk⟩]
    · rw [if_neg fun hjk => hlt.ne (congrArg Fin.val hjk.1), h.won j hlt hwins]
  case refine_4 =>
    obtain ⟨hk, hlt⟩ := not_or.mp (mt val_lt_succ_and_iff.mpr hno)
    rw [slotAt_commitSlot, if_neg fun hjk => hk ⟨hjk.1, hgrants.mp hjk.2⟩, h.kept j hlt]
  case refine_5 =>
    have hlist : (commitSlot acc k).assigned = if acc.state.grants k then k :: acc.assigned else acc.assigned := rfl
    rw [hlist, val_lt_succ_and_iff, ← h.assigned, ← hgrants]
    split <;> simp [*]
  case refine_6 =>
    have hlist : (commitSlot acc k).collided =
      if (acc.state.claimAt k).state = .collided then k :: acc.collided else acc.collided := rfl
    rw [hlist, hclaim, val_lt_succ_and_iff (p := fun j => (s.claimAt j).state = .collided), ← h.collided]
    split <;> simp [*]

/-- What the whole loop leaves (R173). -/
theorem State.commitLoop_committed {s : State} (h : ServerInv s) : CommittedBelow s 6 s.commitLoop :=
  s.commitLoop_ascending (CommittedBelow.start s) fun _ _ hacc => hacc.turn h

/-- A slot won in the loop gets its claimant, with no command pending (R173). -/
theorem State.slotAt_commit_of_wins {s : State} (h : ServerInv s) {k : Fin 6} (hk : s.WinsSlot k) :
    s.commit.slotAt k = { s.slotAt k with owner := (s.claimAt k).id, cmdValid := false } := by
  rw [State.slotAt_commit, (State.commitLoop_committed h).won k k.isLt hk]

/-- Every other slot stays as it was (R173). -/
theorem State.slotAt_commit_of_not_wins {s : State} (h : ServerInv s) {k : Fin 6} (hk : ¬ s.WinsSlot k) :
    s.commit.slotAt k = s.slotAt k := by
  rw [State.slotAt_commit, (State.commitLoop_committed h).kept k fun hw => hk hw.2]

theorem State.mem_assigned_iff {s : State} (h : ServerInv s) (k : Fin 6) :
    k ∈ s.commitLoop.assigned ↔ s.WinsSlot k :=
  ((State.commitLoop_committed h).assigned k).trans (and_iff_right k.isLt)

theorem State.mem_collided_iff {s : State} (h : ServerInv s) (k : Fin 6) :
    k ∈ s.commitLoop.collided ↔ (s.claimAt k).state = .collided :=
  ((State.commitLoop_committed h).collided k).trans (and_iff_right k.isLt)

/-! ### The claims that `BUILD` grants (R173) -/

theorem State.cliAt_arbitrated (s : State) (now : Time) (id : RobotId) :
    (s.arbitrated now).cliAt id = (s.sweep now).cliAt id := rfl

/-- No slot has a live robot for its owner in arbitration exactly where none had it before: only the slots of robots
that are not live are freed (R172). -/
theorem State.unowned_arbitrated_iff {s : State} (h : ServerInv s) {now : Time} {id : RobotId} (hid : id ≠ 0)
    (hlive : s.liveAt now id) :
    (∀ j, ((s.arbitrated now).slotAt j).owner ≠ id) ↔ ∀ j, (s.slotAt j).owner ≠ id := by
  refine forall_congr' fun j => not_congr ?_
  rw [State.owner_arbitrated]
  split
  · next hr =>
    refine iff_of_false hid.symm fun hown => ?_
    exact ((State.ownerReclaimable_sweep_iff h).mp hr).2 (hown ▸ hlive)
  · rfl

/-- The claims that `BUILD` grants, in terms of the state in which it begins (R173). -/
theorem State.winsSlot_arbitrated_iff {s : State} (h : ServerInv s) {now : Time} {k : Fin 6} :
    (s.arbitrated now).WinsSlot k ↔
      (s.claimAt k).state = .one ∧ s.liveAt now (s.claimAt k).id ∧ (∀ j, (s.slotAt j).owner ≠ (s.claimAt k).id) ∧
        ∀ j : Fin 6, j < k → ¬ ((s.claimAt j).state = .one ∧ (s.claimAt j).id = (s.claimAt k).id) := by
  simp only [State.WinsSlot, State.grants_iff, State.claimAt_arbitrated, State.cliAt_arbitrated,
    State.ownedSlot_eq_none, and_assoc]
  refine and_congr_right fun hone => ?_
  have hopen : ((s.arbitrated now).slotAt k).owner = 0 := by
    rw [State.owner_arbitrated, h.claimsOpen k (by rw [hone]; nofun), ite_self]
  rw [and_iff_right hopen, State.liveAt_iff, and_assoc]
  refine and_congr_right fun hvalid => and_congr_right fun hlive => and_congr_left' ?_
  exact State.unowned_arbitrated_iff h (h.claimantKnown k hone).1 (State.liveAt_iff.mpr ⟨hvalid, hlive⟩)

/-- Settles O50: the claims granted are those that win their slots in arbitration. -/
theorem buildGrantsTheUncontestedClaims : Obligations.BuildGrantsTheUncontestedClaims := by
  unfold Obligations.BuildGrantsTheUncontestedClaims
  intro s hs hinv granted
  have harb := hinv.arbitrated hs.2 s.side.now
  have hwins (k : Fin 6) : (s.arbitrated s.side.now).WinsSlot k ↔ granted k := State.winsSlot_arbitrated_iff hinv
  have hassigned (k : Fin 6) : k ∈ (s.arbitrated s.side.now).commitLoop.assigned ↔ granted k :=
    (State.mem_assigned_iff harb k).trans (hwins k)
  have hcollided (k : Fin 6) :
      k ∈ (s.arbitrated s.side.now).commitLoop.collided ↔ (s.claimAt k).state = .collided := by
    rw [State.mem_collided_iff harb, State.claimAt_arbitrated]
  have hassignedEvent : s.notedInBuild s.side.now .slotAssigned = true ↔ ∃ k, granted k := by
    simp only [State.notedInBuild, Bool.not_eq_true', List.isEmpty_eq_false_iff_exists_mem, hassigned]
  have hcollidedEvent : s.notedInBuild s.side.now .slotCollision = true ↔
      ∃ k, (s.claimAt k).state = .collided := by
    simp only [State.notedInBuild, Bool.not_eq_true', List.isEmpty_eq_false_iff_exists_mem, hcollided]
  refine ⟨_, _, _, exec_build hs, ?_, ?_, fun k => ⟨?_, fun hk => ⟨?_, ?_⟩, fun hk hopen => ?_, ?_, ?_⟩⟩
  case refine_1 => simpa only [Event.index] using State.event_build_iff hassignedEvent
  case refine_2 => simpa only [Event.index] using State.event_build_iff hcollidedEvent
  case refine_3 => rw [State.claimAt_consumeCommands, State.assigned, State.claimAt_commit]; rfl
  case refine_4 =>
    rw [State.owner_build, State.slotAt_commit_of_wins harb ((hwins k).mpr hk), State.claimAt_arbitrated]
  case refine_5 => exact State.cmdValid_build hinv hs.2 _ k
  case refine_6 =>
    rw [State.owner_build, State.slotAt_commit_of_not_wins harb (mt (hwins k).mp hk), State.owner_arbitrated, hopen,
      ite_self]
  case refine_7 => rw [getLsbD_buildWord_assigned, getLsbD_maskOf, hassigned]
  case refine_8 => rw [getLsbD_buildWord_collided, getLsbD_maskOf, hcollided]

/-! ### The frame that `BUILD` sends (R174) -/

/-- A command pending when `BUILD` assembles was pending when it began (R172, R173). -/
theorem State.cmdValid_of_assigned {s : State} {now : Time} {k : Fin 6}
    (h : ((s.assigned now).slotAt k).cmdValid = true) : (s.slotAt k).cmdValid = true := by
  rw [State.assigned] at h
  rcases (s.arbitrated now).slotAt_commit_cases k with e | ⟨_, _, _, _, e⟩ <;> rw [e] at h
  · rw [State.arbitrated, State.slotAt_freeSlots] at h
    split at h
    · cases h
    · exact h
  · cases h

/-- The type of the frame that `BUILD` sends is that of its configuration (R174). -/
theorem State.frameType_assigned (s : State) (now : Time) :
    (s.assigned now).nextFrame.frameType = s.cfg.typeControl := by
  rw [State.nextFrame, State.assigned_cfg]

/-- The message of an owner without a pending command is the hold/zero command (R174). -/
theorem State.nextMessage_of_no_command {s : State} {k : Fin 6} (howner : (s.slotAt k).owner ≠ 0)
    (hcmd : (s.slotAt k).cmdValid = false) :
    s.nextMessage k = { ControlMessage.zero with recipientId := (s.slotAt k).owner } := by
  rw [State.nextMessage, if_neg howner, hcmd]
  rfl

/-- Settles O51: the frame is that of the tables that arbitration leaves, slot by slot. -/
theorem buildSendsTheNextFrame : Obligations.BuildSendsTheNextFrame := by
  unfold Obligations.BuildSendsTheNextFrame
  intro s hs hinv
  refine ⟨_, _, _, exec_build hs, getLsbD_buildWord_tx .., s.frameType_assigned _,
    fun k => ⟨State.cmdValid_build hinv hs.2 _ k, ?_⟩⟩
  rw [State.owner_consumeCommands, State.nextFrame_msg]
  refine ⟨fun hopen => ?_, fun howner hcmd => ?_, fun howner hcmd => ?_⟩
  · exact if_pos hopen
  · exact State.nextMessage_assigned_of_cmdValid hinv _ hcmd howner
  · refine State.nextMessage_of_no_command howner (Bool.eq_false_iff.mpr fun hc => ?_)
    cases hcmd.symm.trans (State.cmdValid_of_assigned hc)

theorem buildWord_and_txBit (freed assigned collided : BitVec 6) :
    buildWord freed assigned collided &&& txBit = txBit := by
  refine BitVec.eq_of_getLsbD_eq fun i hi => ?_
  rw [BitVec.getLsbD_and, getLsbD_txBit]
  by_cases h : i = 31
  · rw [h, getLsbD_buildWord_tx]; rfl
  · simp [h]

/-- Two slots of the next frame that name the same robot name none (R45(a), R174). -/
theorem State.OwnersDistinct.recipientId_eq_zero {s : State} (h : s.OwnersDistinct) {j k : Fin 6} (hjk : j ≠ k)
    (hsame : (s.nextFrame.msg j).recipientId = (s.nextFrame.msg k).recipientId) :
    (s.nextFrame.msg k).recipientId = 0 := by
  simp only [State.nextFrame_msg, State.nextMessage_recipientId] at hsame ⊢
  by_contra hk
  exact hjk (h j k (hsame ▸ hk) hsame)

/-- Settles O52: what is sent is a control frame with distinct owners, framed, which every step of a client's front end
takes apart again. -/
theorem everyBuiltFrameIsAccepted : Obligations.EveryBuiltFrameIsAccepted := by
  unfold Obligations.EveryBuiltFrameIsAccepted
  intro s hs hinv
  have hdistinct : (s.assigned s.side.now).OwnersDistinct := (hinv.assigned hs.2 _).ownersDistinct
  have hunique := State.nextFrame_unique hdistinct
  have hframe := encCtl_eq s.cfg (s.assigned s.side.now).nextFrame
  refine ⟨_, _, _, _, _, _, exec_build hs, rfl, if_pos (buildWord_and_txBit ..), ?_,
    decodeFrame_of_encodeFrame hframe, unpackCF_packCF hunique, fun j k hjk hsame => ?_, fun cfg hport htyp => ?_⟩
  case refine_1 => simp
  case refine_2 => exact hdistinct.recipientId_eq_zero hjk hsame
  case refine_3 => exact clientFront_of_encCtl hframe hport htyp (s.frameType_assigned _) hunique

/-! ### Ownership over every operation (R165) -/

/-- An operation keeps the owner of a slot, or it is `STOP` and frees the slot, or it is `BUILD` (R165). -/
theorem Effect.owner_cases {s u : State} {i : Instr} (he : Effect s i u) (k : Fin 6) :
    (u.slotAt k).owner = (s.slotAt k).owner ∨ (i = .stop ∧ (u.slotAt k).owner = 0) ∨
      (i = .build ∧ u = (s.assigned s.side.now).consumeCommands) := by
  cases he with
  | unchanged | start | stopClient | rxcMatched | rxcClaimed | rxcUnmatched | ctick | sweep => exact .inl rfl
  | stopServer => exact .inr (.inl ⟨rfl, by rw [State.slotAt_stopServer]⟩)
  | csrw hw =>
    obtain ⟨_, _, _, _, _, _, _, _, rfl⟩ := State.csrWrite_frame hw
    exact .inl rfl
  | rxr =>
    obtain ⟨_, _, hf⟩ := State.rxr_frame _ _ _ _
    rw [hf]
    exact .inl rfl
  | setcmd => exact .inl (s.owner_postCommand _ _ k)
  | build => exact .inr (.inr ⟨rfl, rfl⟩)

/-- Settles O53: `STOP` only frees, and `BUILD` grants no slot that had an owner. -/
theorem slotOwnershipChanges : Obligations.SlotOwnershipChanges := by
  unfold Obligations.SlotOwnershipChanges
  intro i s t k h hne
  obtain ⟨u, r, he, rfl⟩ := exec_effect h
  have ht : State.slotAt { u with rsp := r } k = u.slotAt k := rfl
  rw [ht] at hne ⊢
  rcases he.owner_cases k with hkept | ⟨hi, hfreed⟩ | ⟨hi, rfl⟩
  · exact absurd hkept hne
  · exact ⟨.inr hi, fun _ => .inr hfreed⟩
  · refine ⟨.inl hi, fun hinv => or_iff_not_imp_left.mpr fun hk => ?_⟩
    have howner := State.owner_build_of_owned hinv s.side.now hk
    rw [State.owner_arbitrated] at howner
    split at howner
    · exact howner
    · exact absurd howner hne

end Sys2Proof.Machine
end

section
/-! PROOFS. How an operation ends (spec/60_exceptions.md R190, R192, R193, R195): O10, O15, O9, O16. -/

namespace Sys2Proof.Machine

open Sys2Proof

/-! ### A status other than `OK` -/

/-- A response with a status other than `OK` is left by `State.raise` alone (R192). -/
theorem eq_raise_of_raised {i : Instr} {s t : State} {e : Status} (h : exec i s = .next t)
    (ht : t.rsp = some (.raised e)) : t = s.raise e := by
  rcases exec_next h with ⟨e', _, rfl⟩ | ⟨u, r, _, _, rfl⟩ <;> cases ht
  rfl

/-- Settles O10: a raise writes the response and no other field. -/
theorem raisedStatusWritesNothing : Obligations.RaisedStatusWritesNothing := by
  unfold Obligations.RaisedStatusWritesNothing
  intro i s t e h ht
  obtain rfl := eq_raise_of_raised h ht
  exact ⟨rfl, rfl, rfl⟩

/-- What a body can raise stands in the operation's row (R193). -/
theorem bodyStatuses_subset (i : Instr) : bodyStatuses i ⊆ possibleStatuses i := by
  cases i <;> simp [bodyStatuses, possibleStatuses]

theorem wrongRole_mem_possibleStatuses {i : Instr} {s : State} (h : wrongRole i s = true) :
    .wrongRole ∈ possibleStatuses i := by
  have hserved : servedBy i ≠ none := fun hn => by simp [wrongRole, hn] at h
  cases i <;> simp [servedBy, possibleStatuses] at hserved ⊢

theorem notStarted_mem_possibleStatuses {i : Instr} {s : State} (h : notStarted i s = true) :
    .notStarted ∈ possibleStatuses i := by
  obtain ⟨hneeds, _⟩ := notStarted_iff.mp h
  cases i <;> simp [needsStarted, possibleStatuses] at hneeds ⊢

theorem badOperand_mem_possibleStatuses {i : Instr} {s : State} (h : operandOutOfRange i s = true) :
    .badOperand ∈ possibleStatuses i := by
  cases i <;> simp [operandOutOfRange, possibleStatuses] at h ⊢

/-- What the prologue raises for an operation stands in the operation's row (R140, R193). -/
theorem mem_possibleStatuses_of_prologue {i : Instr} {s : State} {e : Status} (h : prologue i s = .error e) :
    e ∈ possibleStatuses i := by
  rcases prologue_cases i s with ⟨hw, hp⟩ | ⟨_, hn, hp⟩ | ⟨_, _, ho, hp⟩ | ⟨_, _, _, hp⟩ <;> cases hp.symm.trans h
  · exact wrongRole_mem_possibleStatuses hw
  · exact notStarted_mem_possibleStatuses hn
  · exact badOperand_mem_possibleStatuses ho

/-- Settles O15: a status comes from a check of the prologue or from the body. -/
theorem statusesOfEachOperation : Obligations.StatusesOfEachOperation := by
  unfold Obligations.StatusesOfEachOperation
  intro i s t e h ht
  rcases raised_cases h ht with hp | hb
  · exact mem_possibleStatuses_of_prologue hp
  · exact bodyStatuses_subset i hb

/-! ### No status stops the core -/

/-- An operation leaves a response, whether it raised or was served (R49, R195). -/
theorem exec_leaves_response {i : Instr} {s t : State} (h : exec i s = .next t) : ∃ r, t.rsp = some r := by
  rcases exec_next h with ⟨e, _, rfl⟩ | ⟨u, r, _, _, rfl⟩ <;> exact ⟨_, rfl⟩

/-- An accepted word is an operation, which answers, or completes with `ILLEGAL_OP` (R91). -/
theorem runCommand_answers (cw : Word) (s : State) : ∃ t, runCommand cw s = .next t := by
  unfold runCommand
  split
  · exact exec_answers _ s
  · exact ⟨_, rfl⟩

theorem stepEdge_answers (e : Edge) (s : State) : ∃ t, stepEdge e s = .next t := by
  cases hrst : e.rst with
  | true => exact ⟨_, stepEdge_of_rst hrst⟩
  | false =>
    by_cases hrsp : s.rsp = none
    · cases hc : e.cmdValid with
      | false => exact ⟨_, stepEdge_of_idle hrst hrsp hc⟩
      | true => rw [stepEdge_of_command hrst hrsp hc]; exact runCommand_answers _ _
    · exact ⟨_, stepEdge_of_waiting hrst hrsp⟩

theorem step_answers (s : State) : ∃ t, step s = .next t := by
  unfold step
  split
  · exact ⟨s, rfl⟩
  · exact stepEdge_answers _ _

/-- Settles O9: every end of an operation and every branch of an edge answers a next state. -/
theorem nothingStopsTheCore : Obligations.NothingStopsTheCore := by
  unfold Obligations.NothingStopsTheCore
  refine ⟨fun i s => ?_, step_answers⟩
  obtain ⟨t, h⟩ := exec_answers i s
  obtain ⟨r, hr⟩ := exec_leaves_response h
  exact ⟨t, r, h, hr⟩

/-- Settles O16, status by status. -/
theorem statusCodesOfEveryResponse : Obligations.StatusCodesOfEveryResponse := by
  unfold Obligations.StatusCodesOfEveryResponse
  refine ⟨fun _ => rfl, rfl, rfl, rfl, rfl, rfl, rfl, rfl, rfl, rfl, rfl, fun r => ?_⟩
  cases r with
  | ok r => exact List.mem_cons_self
  | raised e => cases e <;> decide

end Sys2Proof.Machine
end

section
/-! PROOFS. What each operation leaves unchanged (spec/60_exceptions.md R193): O17, O18. -/

namespace Sys2Proof.Machine

open Sys2Proof

/-- Noting an event changes no event bit outside a mask that covers it (R34). -/
theorem State.noteEvent_events_or (s : State) {e : Event} (b : Bool) {mask : BitVec 7} (h : e.mask ||| mask = mask) :
    (s.noteEvent e b).events ||| mask = s.events ||| mask := by
  cases b with
  | false => rfl
  | true => rw [State.noteEvent_events, if_pos rfl, BitVec.or_assoc, h]

/-- Settles O17, by the effects of the operations that serve both roles and of the client's. -/
theorem sharedAndClientOperationsWriteOnlyTheirRow : Obligations.SharedAndClientOperationsWriteOnlyTheirRow := by
  unfold Obligations.SharedAndClientOperationsWriteOnlyTheirRow
  intro i s t h
  obtain ⟨u, r, he, rfl⟩ := exec_effect h
  cases he with
  | unchanged =>
    cases i
    case csrw => dsimp only; split <;> trivial
    case stop => exact ⟨rfl, fun _ => rfl, rfl⟩
    case rxc | ctick => exact ⟨rfl, rfl⟩
    case rxr | sweep | setcmd | build | rdcli | rdslot => trivial
    all_goals rfl
  | start => rfl
  | stopClient => exact ⟨rfl, fun _ => rfl, s.noteEvent_events_or _ rfl⟩
  | stopServer =>
    have hcmd (k : Fin 6) : (s.stopServer.slotAt k).cmd = (s.slotAt k).cmd := by rw [State.slotAt_stopServer]
    exact ⟨rfl, hcmd, s.noteEvent_events_or _ rfl⟩
  | csrw hw =>
    rcases State.csrWrite_cases hw with ⟨rfl, rfl⟩ | ⟨rfl, rfl⟩ | ⟨rfl, rfl⟩ | ⟨rfl, rfl⟩ | ⟨rfl, rfl⟩ |
      ⟨rfl, rfl⟩ | ⟨rfl, rfl⟩ | ⟨rfl, rfl⟩ <;> rfl
  | rxcMatched | rxcClaimed | rxcUnmatched | ctick => exact ⟨rfl, s.noteEvent_events_or _ rfl⟩
  | rxr | sweep | setcmd | build => trivial

/-! ### The server's tables -/

/-- `RXR` sets no event bit but `CLIENT_NEW` (R166). -/
theorem rxrAccepted_events_or (s : State) (rx : BitVec 3) (r : ReplyMessage) :
    (rxrAccepted s rx r).1.events ||| 0x04 = s.events ||| 0x04 := by
  rw [rxrAccepted_frame]
  cases (s.cliAt r.senderId).valid with
  | false => exact BitVec.or_assoc ..
  | true => rfl

/-- A sweep writes no field of a record but `reclaimable` (R169). -/
theorem State.eq_of_sweepRecord {s : State} {now : Time} {c d : CliRecord} (h : d = s.sweepRecord now c) :
    d = { c with reclaimable := d.reclaimable } := by
  rw [h]
  rfl

/-- `SETCMD` writes no slot but its robot's (R170). -/
theorem slotAt_setcmd_of_ne {s t : State} (h : exec .setcmd s = .next t) {k : Fin 6}
    (hk : (s.slotAt k).owner ≠ (s.side.cf.msg 0).recipientId) : t.slotAt k = s.slotAt k := by
  rcases exec_next h with ⟨e, _, rfl⟩ | ⟨u, r, _, hb, rfl⟩
  · rfl
  · obtain ⟨j, hj, rfl, _⟩ := setcmdBody_eq_ok hb
    have hkj : k ≠ j := fun e => hk (e ▸ State.ownedSlot_eq_some hj)
    rw [State.slotAt_respond, State.postCommand, State.slotAt_setSlot, if_neg hkj]

/-- Freeing, granting and assembling keep the stored command of every slot (R172 to R174). -/
theorem State.cmd_build (s : State) (now : Time) (k : Fin 6) :
    ((s.assigned now).consumeCommands.slotAt k).cmd = (s.slotAt k).cmd := by
  have hfreed : ((s.arbitrated now).slotAt k).cmd = (s.slotAt k).cmd := by
    rw [State.arbitrated, State.slotAt_freeSlots]
    split <;> rfl
  have hgranted : ((s.assigned now).slotAt k).cmd = ((s.arbitrated now).slotAt k).cmd := by
    rw [State.assigned]
    rcases (s.arbitrated now).slotAt_commit_cases k with e | ⟨_, _, _, _, e⟩ <;> rw [e]
  calc _ = ((s.assigned now).slotAt k).cmd := by rw [State.slotAt_consumeCommands]
    _ = (s.slotAt k).cmd := hgranted.trans hfreed

/-- `BUILD` sets no event bit but those of its sweep, its freeing and its grants (R169, R172, R173). -/
theorem State.build_events_or (s : State) (now : Time) :
    (s.assigned now).consumeCommands.events ||| 0x78 = s.events ||| 0x78 := by
  rw [State.consumeCommands_events, State.assigned, State.commit]
  calc _ = (s.arbitrated now).commitLoop.state.events ||| 0x78 :=
        (State.noteEvent_events_or _ _ rfl).trans (State.noteEvent_events_or _ _ rfl)
    _ = (s.sweep now).freeSlots.events ||| 0x78 := by rw [State.commitLoop_events]; rfl
    _ = (s.sweep now).events ||| 0x78 := State.noteEvent_events_or _ _ rfl
    _ = s.events ||| 0x78 := State.noteEvent_events_or _ _ rfl

/-- Settles O18, by the effects of the server's operations. -/
theorem serverOperationsWriteOnlyTheirRow : Obligations.ServerOperationsWriteOnlyTheirRow := by
  unfold Obligations.ServerOperationsWriteOnlyTheirRow
  intro i s t h
  obtain ⟨u, r, he, rfl⟩ := exec_effect h
  cases he with
  | unchanged =>
    cases i
    case rxr => exact ⟨rfl, fun _ _ => rfl, fun _ _ => rfl, rfl⟩
    case sweep => exact ⟨rfl, fun _ => rfl, rfl⟩
    case setcmd => exact ⟨rfl, fun _ => rfl, fun _ _ => rfl⟩
    case build => exact ⟨rfl, fun _ => rfl, fun _ => rfl, rfl⟩
    case rdcli | rdslot => rfl
    all_goals trivial
  | start | stopClient | stopServer | csrw | rxcMatched | rxcClaimed | rxcUnmatched | ctick => trivial
  | @rxr rx m _ hf =>
    obtain ⟨_, _, _, _, _, _, hm⟩ := serverFront_eq_ok hf
    have hsender : s.side.buf[3] = m.senderId := SideOperands.buf_of_bytes (by decide) (serverFront_sender hf)
    refine ⟨?_, fun id hid => ?_, fun k hk => ?_, rxrAccepted_events_or s rx m⟩
    · obtain ⟨_, _, hframe⟩ := s.rxr_frame m s.side.now rx
      rw [hframe]
    · exact (s.cliAt_rxrAccepted rx hm id).trans (if_neg (hsender ▸ hid))
    · exact claimAt_rxrAccepted_of_not_mayClaim fun hmay => hk hmay.1
  | sweep =>
    exact ⟨rfl, fun id => State.eq_of_sweepRecord (s.cliAt_sweep s.side.now id), s.noteEvent_events_or _ rfl⟩
  | setcmd => exact ⟨rfl, s.owner_postCommand _ _, fun _ hk => slotAt_setcmd_of_ne h hk⟩
  | build =>
    obtain ⟨_, _, _, _, hframe⟩ := s.build_frame s.side.now
    have hrec := s.cliAt_build s.side.now
    have hcmd := s.cmd_build s.side.now
    have hevents := s.build_events_or s.side.now
    generalize (s.assigned s.side.now).consumeCommands = u at hframe hrec hcmd hevents
    exact ⟨by rw [hframe], fun id => State.eq_of_sweepRecord (hrec id), hcmd, hevents⟩

end Sys2Proof.Machine
end

section
/-! PROOFS. Reset (spec/70_reset_and_hazards.md R215): O7. -/

namespace Sys2Proof.Machine

open Sys2Proof

/-- An edge with `rst = 1` gives the reset state of the configuration, whatever else the edge and the core hold (R47). -/
theorem step_of_rst {s : State} {e : Edge} {rest : List Edge} (hin : s.inputs = e :: rest) (hrst : e.rst = true) :
    step s = .next { State.resetWith s.cfg with inputs := rest } := by
  rw [step_of_inputs hin, stepEdge_of_rst hrst]
  rfl

/-- Without an event there is no interrupt, whatever is enabled (R35). -/
theorem State.irq_of_events_eq_zero {s : State} (h : s.events = 0) : s.irq = false := by
  simp [State.irq, h]

/-- Without a scheduled reply none is due, at any time (R157). -/
theorem State.replyDue_of_not_pending {s : State} (h : s.replyPending = false) (now : Time) :
    s.replyDue now = false := by
  rw [State.replyDue, h, Bool.false_and]

/-- Settles O7: the reset edge gives `State.resetWith`, and each output is read off its reset values. -/
theorem resetIsAFunctionOfTheConfiguration : Obligations.ResetIsAFunctionOfTheConfiguration := by
  unfold Obligations.ResetIsAFunctionOfTheConfiguration
  intro s e rest hin hrst
  have hirq : { State.resetWith s.cfg with inputs := rest }.irq = false := State.irq_of_events_eq_zero rfl
  have hdue : ∀ now, { State.resetWith s.cfg with inputs := rest }.replyDue now = false :=
    State.replyDue_of_not_pending rfl
  exact ⟨_, step_of_rst hin hrst, rfl, rfl, rfl, rfl, rfl, rfl, hirq, hdue⟩

end Sys2Proof.Machine
end
